-- ==== Sys2Proof/Word.lean ====
section
/-! DEFINITION. The Word and the Block: the two data shapes of the unit (00_scope R7, R11; 30_encoding R101). -/

namespace Sys2Proof

/-- A Word: an unsigned 32-bit integer (00_scope R11). -/
abbrev Word := BitVec 32

/-- A Block: an ordered sequence of exactly 16 Words (00_scope R15, 30_encoding R101). -/
abbrev Block := Vector Word 16

end Sys2Proof
end

