-- ==== Sys2Proof/Syntax.lean ====
section
/-! DEFINITION. The instructions: one constructor per row of spec/opcode_table.json (formats HT49, ST4, SCHED17;
30_encoding R100 to R117). -/

namespace Sys2Proof

/-- The operand fields of one ARX step (30_encoding R114): `x[a] ^= rotl32(x[b] + x[c], n)`. -/
structure ArxOp where
  a : Fin 16
  b : Fin 16
  c : Fin 16
  n : Nat
deriving DecidableEq, Repr

/-- Every row of the opcode table. -/
inductive Instr where
  /-- `HRD a`: host read of the register at byte offset `a` (R103, R220). -/
  | hrd (a : BitVec 16)
  /-- `HWR a, v`: host write of `v` at byte offset `a` (R104, R221). -/
  | hwr (a : BitVec 16) (v : Word)
  /-- `MIX`: run StreamCore on Block 0 of `G` (R105, R228). -/
  | mix
  /-- `BLOCKMIX`: run BlockMixer on the group in `G` (R105, R229). -/
  | blockmix
  /-- `ROMIX`: run ROMix on the group in `G` (R105, R230). -/
  | romix
  /-- `ABORT`: stop and return to `IDLE` (R105, R231). -/
  | abort
  /-- `IDLE`: resting state: the sequencer takes no step (R231, ST4 code of R110). -/
  | idle
  /-- `SQ.CHECK`: the parameter check, first micro-operation of every command (R190, ST4 code of R110). -/
  | sqCheck
  /-- `MX.IN`: Block 0 of `G` into `T` (R191, ST4 code of R110). -/
  | mxIn
  /-- `MX.OUT`: `T` into Block 0 of `G`, and finish (R192, ST4 code of R110). -/
  | mxOut
  /-- `BM.INIT`: start a BlockMixer run (R171, ST4 code of R110). -/
  | bmInit
  /-- `BM.XOR`: fold input Block `k` into `T` (R172, ST4 code of R110). -/
  | bmXor
  /-- `SC.LOAD`: start a StreamCore pass (R141, ST4 code of R110). -/
  | scLoad
  /-- `SC.ARX`: one add-rotate-xor step, operands from `SCHED[s]` (R142, ST4 code of R110). -/
  | scArx
  /-- `SC.FFWD`: feed-forward (R143, ST4 code of R110). -/
  | scFfwd
  /-- `BM.STORE`: write the mixed Block to its interleaved place in `Y` (R173, ST4 code of R110). -/
  | bmStore
  /-- `BM.COMMIT`: make `Y` the new group and decide what follows (R175, ST4 code of R110). -/
  | bmCommit
  /-- `RM.FILL`: store the group as table entry `i` (R194, ST4 code of R110). -/
  | rmFill
  /-- `RM.IDX`: compute the table index `j` (R195, ST4 code of R110). -/
  | rmIdx
  /-- `RM.XORV`: fold table entry `j` into the group (R196, ST4 code of R110). -/
  | rmXorv
  /-- `DONE`: resting state: the sequencer takes no step (R232, ST4 code of R110). -/
  | done
  /-- `ERROR`: resting state: the sequencer takes no step (R274, ST4 code of R110). -/
  | error
  /-- `SC.ARX 4, 0, 12, 7`: the operand form `SCHED[0]` (R116). -/
  | scArx_4_0_12_7
  /-- `SC.ARX 8, 4, 0, 9`: the operand form `SCHED[1]` (R116). -/
  | scArx_8_4_0_9
  /-- `SC.ARX 12, 8, 4, 13`: the operand form `SCHED[2]` (R116). -/
  | scArx_12_8_4_13
  /-- `SC.ARX 0, 12, 8, 18`: the operand form `SCHED[3]` (R116). -/
  | scArx_0_12_8_18
  /-- `SC.ARX 9, 5, 1, 7`: the operand form `SCHED[4]` (R116). -/
  | scArx_9_5_1_7
  /-- `SC.ARX 13, 9, 5, 9`: the operand form `SCHED[5]` (R116). -/
  | scArx_13_9_5_9
  /-- `SC.ARX 1, 13, 9, 13`: the operand form `SCHED[6]` (R116). -/
  | scArx_1_13_9_13
  /-- `SC.ARX 5, 1, 13, 18`: the operand form `SCHED[7]` (R116). -/
  | scArx_5_1_13_18
  /-- `SC.ARX 14, 10, 6, 7`: the operand form `SCHED[8]` (R116). -/
  | scArx_14_10_6_7
  /-- `SC.ARX 2, 14, 10, 9`: the operand form `SCHED[9]` (R116). -/
  | scArx_2_14_10_9
  /-- `SC.ARX 6, 2, 14, 13`: the operand form `SCHED[10]` (R116). -/
  | scArx_6_2_14_13
  /-- `SC.ARX 10, 6, 2, 18`: the operand form `SCHED[11]` (R116). -/
  | scArx_10_6_2_18
  /-- `SC.ARX 3, 15, 11, 7`: the operand form `SCHED[12]` (R116). -/
  | scArx_3_15_11_7
  /-- `SC.ARX 7, 3, 15, 9`: the operand form `SCHED[13]` (R116). -/
  | scArx_7_3_15_9
  /-- `SC.ARX 11, 7, 3, 13`: the operand form `SCHED[14]` (R116). -/
  | scArx_11_7_3_13
  /-- `SC.ARX 15, 11, 7, 18`: the operand form `SCHED[15]` (R116). -/
  | scArx_15_11_7_18
  /-- `SC.ARX 1, 0, 3, 7`: the operand form `SCHED[16]` (R116). -/
  | scArx_1_0_3_7
  /-- `SC.ARX 2, 1, 0, 9`: the operand form `SCHED[17]` (R116). -/
  | scArx_2_1_0_9
  /-- `SC.ARX 3, 2, 1, 13`: the operand form `SCHED[18]` (R116). -/
  | scArx_3_2_1_13
  /-- `SC.ARX 0, 3, 2, 18`: the operand form `SCHED[19]` (R116). -/
  | scArx_0_3_2_18
  /-- `SC.ARX 6, 5, 4, 7`: the operand form `SCHED[20]` (R116). -/
  | scArx_6_5_4_7
  /-- `SC.ARX 7, 6, 5, 9`: the operand form `SCHED[21]` (R116). -/
  | scArx_7_6_5_9
  /-- `SC.ARX 4, 7, 6, 13`: the operand form `SCHED[22]` (R116). -/
  | scArx_4_7_6_13
  /-- `SC.ARX 5, 4, 7, 18`: the operand form `SCHED[23]` (R116). -/
  | scArx_5_4_7_18
  /-- `SC.ARX 11, 10, 9, 7`: the operand form `SCHED[24]` (R116). -/
  | scArx_11_10_9_7
  /-- `SC.ARX 8, 11, 10, 9`: the operand form `SCHED[25]` (R116). -/
  | scArx_8_11_10_9
  /-- `SC.ARX 9, 8, 11, 13`: the operand form `SCHED[26]` (R116). -/
  | scArx_9_8_11_13
  /-- `SC.ARX 10, 9, 8, 18`: the operand form `SCHED[27]` (R116). -/
  | scArx_10_9_8_18
  /-- `SC.ARX 12, 15, 14, 7`: the operand form `SCHED[28]` (R116). -/
  | scArx_12_15_14_7
  /-- `SC.ARX 13, 12, 15, 9`: the operand form `SCHED[29]` (R116). -/
  | scArx_13_12_15_9
  /-- `SC.ARX 14, 13, 12, 13`: the operand form `SCHED[30]` (R116). -/
  | scArx_14_13_12_13
  /-- `SC.ARX 15, 14, 13, 18`: the operand form `SCHED[31]` (R116). -/
  | scArx_15_14_13_18
deriving DecidableEq, Repr

end Sys2Proof
end

