-- ==== Sys2Proof/Machine/Arith.lean ====
section
/-! DEFINITION. The Word primitives (00_scope R12, 40_streamcore R151), Blocks lane by lane (R14, R152), and the ARX step
as a function (R145). -/

namespace Sys2Proof.Machine

/-- `add32(a, b) = (a + b) mod 2^32` (R12); the carry is dropped (R36). -/
def add32 (a b : Word) : Word := a + b

/-- `rotl32(v, n)`, for `1 <= n <= 31` (R12): bits shifted out at the top re-enter at the bottom. -/
def rotl32 (v : Word) (n : Nat) : Word := v.rotateLeft n

/-- `xor32(a, b)`, bit by bit (R12). -/
def xor32 (a b : Word) : Word := a ^^^ b

/-- `and32(a, b)`, bit by bit (R12). -/
def and32 (a b : Word) : Word := a &&& b

/-- The Block whose Word `w` is `f w`. -/
def blockOf (f : Fin 16 → Word) : Block :=
  #v[f 0, f 1, f 2, f 3, f 4, f 5, f 6, f 7, f 8, f 9, f 10, f 11, f 12, f 13, f 14, f 15]

/-- One Word operation on all sixteen lanes (R14, R152). -/
def zipBlock (f : Word → Word → Word) (p q : Block) : Block := blockOf fun w => f p[w] q[w]

/-- `arx(x, a, b, c, n)`: `x'[a] = x[a] xor rotl32(x[b] + x[c], n)`, every other Word kept; all reads are of the old
`x` (R145). -/
def arx (x : Block) (f : ArxOp) : Block :=
  x.set f.a (xor32 x[f.a] (rotl32 (add32 x[f.b] x[f.c]) f.n))

end Sys2Proof.Machine
end

