-- ==== Sys2Proof/Config.lean ====
section
/-! DEFINITION. What an implementation fixes (00_scope R9) and the free values (10_state R40; 93 U11, U12). -/

namespace Sys2Proof.Config

/-- The implementation parameters of 00_scope R9, which the spec says the model takes as arguments: `rMax` is `R_MAX`,
the largest `r` the buffers `G` and `Y` hold (`1 <= R_MAX <= 480`), `vWords` is `V_WORDS`, the capacity of the table
store in Words. They stand in State and no step changes them (log entry 6). -/
structure Capacity where
  rMax : Nat
  vWords : Nat
deriving DecidableEq, Repr

/-- DESIGN CHOICE (log entry 6): the reference configuration `RC0` of 00_scope R9, used at `State.reset` only. -/
def rc0 : Capacity := { rMax := 8, vWords := 262144 }

/-- FREE VALUE (log entry 4): the Word that the hardware happens to hold where the spec says "unspecified". It has no
body, so nothing can be proved of it; the first argument is the number of the forgetting event, the second the place. -/
opaque freeWord : Nat → Nat → Word

end Sys2Proof.Config
end

