-- ==== Sys2Proof/WellFormed.lean ====
section
/-! DEFINITION. Which instructions are well formed: those the decoder can give (30_encoding R105, R106). -/

namespace Sys2Proof

/-- A write to `CMD` (offset 0) of one of the four command codes is the command, not a plain `HWR` (R105, R106). -/
def isCommandWrite (a : BitVec 16) (v : Word) : Bool :=
  a == 0x0000#16 && (v == 1#32 || v == 2#32 || v == 3#32 || v == 4#32)

/-- Well-formedness: an `HWR` is not one of the writes that are commands; every other instruction is well formed with
every operand (misaligned and unmapped offsets are operands too: they are answered `ERR`, R72, R73). -/
def Instr.wf : Instr → Bool
  | .hwr a v => !isCommandWrite a v
  | .hrd _ => true
  | .mix => true
  | .blockmix => true
  | .romix => true
  | .abort => true
  | .idle => true
  | .sqCheck => true
  | .mxIn => true
  | .mxOut => true
  | .bmInit => true
  | .bmXor => true
  | .scLoad => true
  | .scArx => true
  | .scFfwd => true
  | .bmStore => true
  | .bmCommit => true
  | .rmFill => true
  | .rmIdx => true
  | .rmXorv => true
  | .done => true
  | .error => true
  | .scArx_4_0_12_7 => true
  | .scArx_8_4_0_9 => true
  | .scArx_12_8_4_13 => true
  | .scArx_0_12_8_18 => true
  | .scArx_9_5_1_7 => true
  | .scArx_13_9_5_9 => true
  | .scArx_1_13_9_13 => true
  | .scArx_5_1_13_18 => true
  | .scArx_14_10_6_7 => true
  | .scArx_2_14_10_9 => true
  | .scArx_6_2_14_13 => true
  | .scArx_10_6_2_18 => true
  | .scArx_3_15_11_7 => true
  | .scArx_7_3_15_9 => true
  | .scArx_11_7_3_13 => true
  | .scArx_15_11_7_18 => true
  | .scArx_1_0_3_7 => true
  | .scArx_2_1_0_9 => true
  | .scArx_3_2_1_13 => true
  | .scArx_0_3_2_18 => true
  | .scArx_6_5_4_7 => true
  | .scArx_7_6_5_9 => true
  | .scArx_4_7_6_13 => true
  | .scArx_5_4_7_18 => true
  | .scArx_11_10_9_7 => true
  | .scArx_8_11_10_9 => true
  | .scArx_9_8_11_13 => true
  | .scArx_10_9_8_18 => true
  | .scArx_12_15_14_7 => true
  | .scArx_13_12_15_9 => true
  | .scArx_14_13_12_13 => true
  | .scArx_15_14_13_18 => true

end Sys2Proof
end

