-- ==== Sys2Proof/Decode.lean ====
section
/-! DEFINITION. The decoder of the three formats (30_encoding R102 to R117), total, rejecting by name; after it the
encoder, written from the same tables. -/

namespace Sys2Proof

/-- A coded instruction in one of the three formats of 30_encoding R100, R118: each has one length. -/
inductive Code where
  /-- A host transaction record: bit 48 kind, 47:32 offset, 31:0 data (R102). -/
  | ht49 (w : BitVec 49)
  /-- A sequencer state code (R110). -/
  | st4 (w : BitVec 4)
  /-- A schedule word: `a` 16:13, `b` 12:9, `c` 8:5, `n` 4:0 (R114). -/
  | sched17 (w : BitVec 17)
deriving DecidableEq, Repr

/-- Why the decoder rejects a code. -/
inductive Reject where
  /-- A record of kind read whose data bits are not 0 (R102, R103: "`d = 0`"): it is no row of the table (R121). -/
  | readWithData
  /-- A 17-bit word that is none of the 32 schedule words (R115: reserved). -/
  | reservedScheduleWord
deriving DecidableEq, Repr

/-- Bits 48, 47:32 and 31:0 of a record (R102). -/
def recordKind (w : BitVec 49) : Bool := w.getLsbD 48

def recordOffset (w : BitVec 49) : BitVec 16 := w.extractLsb' 32 16

def recordData (w : BitVec 49) : Word := w.extractLsb' 0 32

/-- The `HT49` rows: a write to `CMD` with data 1 to 4 is the command, any other write is a plain `HWR` (R103 to R106). -/
def decodeHt49 (w : BitVec 49) : Except Reject Instr :=
  let a := recordOffset w
  let d := recordData w
  if recordKind w = false then
    if d = 0#32 then .ok (.hrd a) else .error .readWithData
  else if a = 0x0000#16 ∧ d = 1#32 then .ok .mix
  else if a = 0x0000#16 ∧ d = 2#32 then .ok .blockmix
  else if a = 0x0000#16 ∧ d = 3#32 then .ok .romix
  else if a = 0x0000#16 ∧ d = 4#32 then .ok .abort
  else .ok (.hwr a d)

/-- The table of R110 in the order of its codes `0x0` to `0xF`. -/
def st4Forms : List Instr :=
  [.idle, .sqCheck, .mxIn, .mxOut, .bmInit, .bmXor, .scLoad, .scArx,
   .scFfwd, .bmStore, .bmCommit, .rmFill, .rmIdx, .rmXorv, .done, .error]

/-- The `ST4` rows. All sixteen codes are used (R110), so the default is never reached. -/
def decodeSt4 (c : BitVec 4) : Instr := st4Forms.getD c.toNat .error

/-- The schedule `SCHED[0 .. 31]`, the "word (hex)" column of R116: steps 0 to 15 the column round, 16 to 31 the row
round. -/
def schedWords : List (BitVec 17) :=
  [0x08187#17, 0x10809#17, 0x1908D#17, 0x01912#17] ++
  [0x12A27#17, 0x1B2A9#17, 0x03B2D#17, 0x0A3B2#17] ++
  [0x1D4C7#17, 0x05D49#17, 0x0C5CD#17, 0x14C52#17] ++
  [0x07F67#17, 0x0E7E9#17, 0x16E6D#17, 0x1F6F2#17] ++
  [0x02067#17, 0x04209#17, 0x0642D#17, 0x00652#17] ++
  [0x0CA87#17, 0x0ECA9#17, 0x08ECD#17, 0x0A8F2#17] ++
  [0x17527#17, 0x11749#17, 0x1316D#17, 0x15312#17] ++
  [0x19FC7#17, 0x1B9E9#17, 0x1DB8D#17, 0x1FDB2#17]

/-- The 32 operand forms of `SC.ARX` in the order of the schedule (R116, "operation" column). -/
def schedForms : List Instr :=
  [.scArx_4_0_12_7, .scArx_8_4_0_9, .scArx_12_8_4_13, .scArx_0_12_8_18] ++
  [.scArx_9_5_1_7, .scArx_13_9_5_9, .scArx_1_13_9_13, .scArx_5_1_13_18] ++
  [.scArx_14_10_6_7, .scArx_2_14_10_9, .scArx_6_2_14_13, .scArx_10_6_2_18] ++
  [.scArx_3_15_11_7, .scArx_7_3_15_9, .scArx_11_7_3_13, .scArx_15_11_7_18] ++
  [.scArx_1_0_3_7, .scArx_2_1_0_9, .scArx_3_2_1_13, .scArx_0_3_2_18] ++
  [.scArx_6_5_4_7, .scArx_7_6_5_9, .scArx_4_7_6_13, .scArx_5_4_7_18] ++
  [.scArx_11_10_9_7, .scArx_8_11_10_9, .scArx_9_8_11_13, .scArx_10_9_8_18] ++
  [.scArx_12_15_14_7, .scArx_13_12_15_9, .scArx_14_13_12_13, .scArx_15_14_13_18]

/-- Look a schedule word up in a list of words and forms. -/
def findForm (w : BitVec 17) : List (BitVec 17 × Instr) → Except Reject Instr
  | [] => .error .reservedScheduleWord
  | (u, i) :: rest => if w = u then .ok i else findForm w rest

/-- The `SCHED17` rows (R116). -/
def decodeSched17 (w : BitVec 17) : Except Reject Instr := findForm w (schedWords.zip schedForms)

/-- The decoder, on any code. -/
def decode : Code → Except Reject Instr
  | .ht49 w => decodeHt49 w
  | .st4 w => .ok (decodeSt4 w)
  | .sched17 w => decodeSched17 w

/-- The operand fields of a schedule word, bits 16:13, 12:9, 8:5 and 4:0 (R114). -/
def schedFields (w : BitVec 17) : ArxOp :=
  { a := (w.extractLsb' 13 4).toFin, b := (w.extractLsb' 9 4).toFin, c := (w.extractLsb' 5 4).toFin,
    n := (w.extractLsb' 0 5).toNat }

/-- The place of a schedule word in `SCHED`, if it is one (R116). -/
def schedIndex (w : BitVec 17) : Option Nat := schedWords.findIdx? (fun u => u == w)

/-- The code that opcode-table bits `w` stand for: an `ST4` row has 4 bits, a `SCHED17` row 17, an `HT49` row 49 (R118),
given in whole bytes. Bits of the carrier above the format are no bits of the machine and are dropped (log entry 13). -/
def tableCode (nbits w : Nat) : Code :=
  if nbits ≤ 8 then .st4 (BitVec.ofNat 4 w)
  else if nbits ≤ 32 then .sched17 (BitVec.ofNat 17 w)
  else .ht49 (BitVec.ofNat 49 w)

/-- The instruction the decoder reads from opcode-table bits (host interface). -/
def decodeTableWord (nbits w : Nat) : Option Instr := (decode (tableCode nbits w)).toOption

/-! The encoder. -/

/-- A record from its three fields (R102). -/
def packRecord (k : Bool) (a : BitVec 16) (d : Word) : BitVec 49 := BitVec.ofBool k ++ a ++ d

/-- A schedule word from its four fields (R114). -/
def packSched (a b c : BitVec 4) (n : BitVec 5) : BitVec 17 := a ++ b ++ c ++ n

/-- The encoder (R103 to R105, R110, R114 with the "operation" column of R116). -/
def encode : Instr → Code
  | .hrd a => .ht49 (packRecord false a 0#32)
  | .hwr a v => .ht49 (packRecord true a v)
  | .mix => .ht49 (packRecord true 0x0000#16 1#32)
  | .blockmix => .ht49 (packRecord true 0x0000#16 2#32)
  | .romix => .ht49 (packRecord true 0x0000#16 3#32)
  | .abort => .ht49 (packRecord true 0x0000#16 4#32)
  | .idle => .st4 0x0#4
  | .sqCheck => .st4 0x1#4
  | .mxIn => .st4 0x2#4
  | .mxOut => .st4 0x3#4
  | .bmInit => .st4 0x4#4
  | .bmXor => .st4 0x5#4
  | .scLoad => .st4 0x6#4
  | .scArx => .st4 0x7#4
  | .scFfwd => .st4 0x8#4
  | .bmStore => .st4 0x9#4
  | .bmCommit => .st4 0xA#4
  | .rmFill => .st4 0xB#4
  | .rmIdx => .st4 0xC#4
  | .rmXorv => .st4 0xD#4
  | .done => .st4 0xE#4
  | .error => .st4 0xF#4
  | .scArx_4_0_12_7 => .sched17 (packSched 4 0 12 7)
  | .scArx_8_4_0_9 => .sched17 (packSched 8 4 0 9)
  | .scArx_12_8_4_13 => .sched17 (packSched 12 8 4 13)
  | .scArx_0_12_8_18 => .sched17 (packSched 0 12 8 18)
  | .scArx_9_5_1_7 => .sched17 (packSched 9 5 1 7)
  | .scArx_13_9_5_9 => .sched17 (packSched 13 9 5 9)
  | .scArx_1_13_9_13 => .sched17 (packSched 1 13 9 13)
  | .scArx_5_1_13_18 => .sched17 (packSched 5 1 13 18)
  | .scArx_14_10_6_7 => .sched17 (packSched 14 10 6 7)
  | .scArx_2_14_10_9 => .sched17 (packSched 2 14 10 9)
  | .scArx_6_2_14_13 => .sched17 (packSched 6 2 14 13)
  | .scArx_10_6_2_18 => .sched17 (packSched 10 6 2 18)
  | .scArx_3_15_11_7 => .sched17 (packSched 3 15 11 7)
  | .scArx_7_3_15_9 => .sched17 (packSched 7 3 15 9)
  | .scArx_11_7_3_13 => .sched17 (packSched 11 7 3 13)
  | .scArx_15_11_7_18 => .sched17 (packSched 15 11 7 18)
  | .scArx_1_0_3_7 => .sched17 (packSched 1 0 3 7)
  | .scArx_2_1_0_9 => .sched17 (packSched 2 1 0 9)
  | .scArx_3_2_1_13 => .sched17 (packSched 3 2 1 13)
  | .scArx_0_3_2_18 => .sched17 (packSched 0 3 2 18)
  | .scArx_6_5_4_7 => .sched17 (packSched 6 5 4 7)
  | .scArx_7_6_5_9 => .sched17 (packSched 7 6 5 9)
  | .scArx_4_7_6_13 => .sched17 (packSched 4 7 6 13)
  | .scArx_5_4_7_18 => .sched17 (packSched 5 4 7 18)
  | .scArx_11_10_9_7 => .sched17 (packSched 11 10 9 7)
  | .scArx_8_11_10_9 => .sched17 (packSched 8 11 10 9)
  | .scArx_9_8_11_13 => .sched17 (packSched 9 8 11 13)
  | .scArx_10_9_8_18 => .sched17 (packSched 10 9 8 18)
  | .scArx_12_15_14_7 => .sched17 (packSched 12 15 14 7)
  | .scArx_13_12_15_9 => .sched17 (packSched 13 12 15 9)
  | .scArx_14_13_12_13 => .sched17 (packSched 14 13 12 13)
  | .scArx_15_14_13_18 => .sched17 (packSched 15 14 13 18)

end Sys2Proof
end

