-- ==== Sys2Proof/Machine/State.lean ====
section
/-! DEFINITION. The state of the unit as plain data (10_state R20), the outside it is joined to, the reasons a step can
stop, and the state after reset (10_state R39). -/

namespace Sys2Proof.Machine

/-- The sixteen codes of the sequencer state register `st` (30_encoding R110); code 0 first. -/
inductive St where
  | idle | check | mxIn | mxOut | bmInit | bmXor | scLoad | scArx
  | scFfwd | bmStore | bmCommit | rmFill | rmIdx | rmXorv | done | error
deriving DecidableEq, Repr

/-- The four values of `op`, 2 bits: 0 none, 1 MIX, 2 BLOCKMIX, 3 ROMIX (10_state R27). -/
inductive Op where
  | none | mix | blockmix | romix
deriving DecidableEq, Repr

/-- The two values of `ph`, 1 bit: 0 the fill pass, 1 the mix pass (10_state R28). -/
inductive Pass where
  | fill | mix
deriving DecidableEq, Repr

/-- A word-addressed store (`G`, `Y`, `V`): the listed cells, addresses rising. What an unlisted Word reads as is
`Store.unlisted` of Machine/Ops.lean: it is fixed while `epoch` is 0 (log entry 3) and a free value after (log entry 4).
The cell is a Word because every location is one Word (20_memory R61; log entry 7). -/
structure Store where
  epoch : Nat
  cells : List (Nat × Word)
deriving DecidableEq, Repr

/-- What the outside does in one step (43_host R222, 70_reset R310); log entry 1. -/
inductive Input where
  /-- One 32-bit transaction, as its 49-bit record (R102). -/
  | txn (record : BitVec 49)
  /-- A transaction of a width other than 32 bits (20_memory R72). -/
  | otherWidth
  /-- The reset input is asserted (R310). -/
  | reset
  /-- The host does nothing, so the sequencer moves (R17). -/
  | wait
deriving DecidableEq, Repr

/-- The response to a host transaction (20_memory R74). -/
inductive Response where
  | ok
  | data (v : Word)
  | err
deriving DecidableEq, Repr

/-- The state. The fields down to `ec` are the spec's complete list (10_state R20); the last four are the model's own. -/
structure State where
  /-- The StreamCore working registers `x[0..15]` (R21). -/
  x : Block
  /-- The block register `T[0..15]` (R22). -/
  t : Block
  /-- The group buffer `G` (R23). -/
  g : Store
  /-- The BlockMixer output buffer `Y` (R24). -/
  y : Store
  /-- The table store `V` (R25). -/
  v : Store
  /-- The sequencer state (R26). -/
  st : St
  /-- The operation in progress (R27). -/
  op : Op
  /-- The ROMix pass (R28). -/
  ph : Pass
  /-- The ROMix loop index (R29). -/
  i : Word
  /-- The BlockMixer loop index (R30). -/
  k : BitVec 10
  /-- The double-round index (R30). -/
  d : BitVec 2
  /-- The ARX step index (R30). -/
  s : BitVec 5
  /-- The table index latch (R30). -/
  j : Word
  /-- `CFG_N` (R31). -/
  cfgN : Word
  /-- `CFG_R` (R32). -/
  cfgR : Word
  /-- The error code (R35). -/
  ec : BitVec 4
  /-- The capacities, which no step changes (00_scope R9; log entry 6). -/
  cap : Config.Capacity
  /-- What the outside does next, first first (log entry 1). -/
  inputs : List Input
  /-- The response to the latest host transaction (log entry 10). -/
  resp : Option Response
  /-- The number of free values' events so far (log entries 4 and 5). -/
  free : Nat
deriving DecidableEq, Repr

/-- Why the machine stops. All three stand for accesses the spec says cannot happen and leaves without a behaviour
(20_memory R63, 60_exceptions R289); stopping there is safe (log entry 8). -/
inductive Fault where
  /-- Raised by a micro-operation that reaches a Word of `G` or `Y` at index `32*R_MAX` or above: such a Word does not
  exist (10_state R23, R24). Safe. -/
  | bufferRange
  /-- Raised by `RM.FILL` and `RM.XORV` when an entry does not lie inside `V_WORDS` (20_memory R63). Safe. -/
  | tableRange
  /-- Raised by `BM.INIT` and `RM.IDX` when `CFG_R` is 0: an empty group has no last Block (41_blockmixer R178). Safe. -/
  | emptyGroup
deriving DecidableEq, Repr

/-- Why an instruction has no meaning. -/
inductive Refusal where
  /-- Raised by an arm of exec whose instruction has no meaning yet; no arm does so. Safe. -/
  | notModelled (mnemonic : String)
deriving DecidableEq, Repr

/-- The outcome of a meaning. -/
abbrev Result := Host.Outcome State Fault Refusal

/-- Sixteen Words of 0. -/
def zeroBlock : Block := Vector.replicate 16 0#32

/-- The state after reset (10_state R39, 70_reset R310, R312): `st`, `op`, `ec`, `CFG_N`, `CFG_R` are the spec's values.
DESIGN CHOICE (log entries 2 and 3): where R39 says "unspecified" the model's value is 0. -/
def State.reset : State :=
  { x := zeroBlock, t := zeroBlock,
    g := { epoch := 0, cells := [] }, y := { epoch := 0, cells := [] }, v := { epoch := 0, cells := [] },
    st := .idle, op := .none, ph := .fill, i := 0#32, k := 0#10, d := 0#2, s := 0#5, j := 0#32,
    cfgN := 0x00000000#32, cfgR := 0x00000000#32, ec := 0#4,
    cap := Config.rc0, inputs := [], resp := none, free := 0 }

end Sys2Proof.Machine
end

