-- ==== Sys2Proof/Machine/Operands.lean ====
section
/-! DEFINITION. The operand forms: the schedule's fields (30_encoding R114, R116), the computed operands of R113, the
host register map (20_memory R70), the validity of `N` (42_romix R198). -/

namespace Sys2Proof.Machine

/-- The fields of `SCHED[s]` (R116). `s` has 5 bits and the schedule 32 words, so the default is never reached. -/
def schedOp (s : BitVec 5) : ArxOp := schedFields (schedWords.getD s.toNat 0#17)

/-- The 32 steps of a double-round in order (R116). -/
def schedOps : List ArxOp := schedWords.map schedFields

/-- Word index of the last Block of a group: `16 * (2*r - 1)` (R113), for `r >= 1`. -/
def lastBlock (r : Nat) : Nat := 16 * (2 * r - 1)

/-- The interleave position `pos(k)` (41_blockmixer R174). -/
def pos (r k : Nat) : Nat := if k % 2 = 0 then k / 2 else r + (k - 1) / 2

/-- Word address of table entry `e`: `e * 32 * r`, exact (R113, 20_memory R64, R69). -/
def entryBase (r e : Nat) : Nat := e * 32 * r

/-- `valid_N(N)`: `N >= 2` and `and32(N, N - 1) = 0` (R198). -/
def validN (n : Word) : Bool := decide (2 ≤ n.toNat) && and32 n (n - 1#32) == 0#32

/-- What a byte offset of the host register space addresses (R70, R72, R73). -/
inductive HostReg where
  | misaligned
  | cmd
  | status
  | cfgN
  | cfgR
  | g (w : Nat)
  | unmapped
deriving DecidableEq, Repr

/-- The host register map (R70): the window ends at `0x1000 + 128*R_MAX - 1`. -/
def hostReg (cap : Config.Capacity) (a : BitVec 16) : HostReg :=
  let n := a.toNat
  if n % 4 ≠ 0 then .misaligned
  else if n = 0x0000 then .cmd
  else if n = 0x0004 then .status
  else if n = 0x0008 then .cfgN
  else if n = 0x000C then .cfgR
  else if 0x1000 ≤ n ∧ n < 0x1000 + 128 * cap.rMax then .g ((n - 0x1000) / 4)
  else .unmapped

/-- The byte offset of `G[w]` (R70, R119). -/
def gOffset (w : Nat) : BitVec 16 := BitVec.ofNat 16 (0x1000 + 4 * w)

/-- The 4-bit code of a sequencer state (R110). -/
def stCode : St → BitVec 4
  | .idle => 0x0#4
  | .check => 0x1#4
  | .mxIn => 0x2#4
  | .mxOut => 0x3#4
  | .bmInit => 0x4#4
  | .bmXor => 0x5#4
  | .scLoad => 0x6#4
  | .scArx => 0x7#4
  | .scFfwd => 0x8#4
  | .bmStore => 0x9#4
  | .bmCommit => 0xA#4
  | .rmFill => 0xB#4
  | .rmIdx => 0xC#4
  | .rmXorv => 0xD#4
  | .done => 0xE#4
  | .error => 0xF#4

/-- The sequencer states in the order of their codes (R110). -/
def stOrder : List St :=
  [.idle, .check, .mxIn, .mxOut, .bmInit, .bmXor, .scLoad, .scArx,
   .scFfwd, .bmStore, .bmCommit, .rmFill, .rmIdx, .rmXorv, .done, .error]

/-- The sequencer state a 4-bit code names (R110). -/
def stOfCode (c : BitVec 4) : St := stOrder.getD c.toNat .error

end Sys2Proof.Machine
end

