-- ==== Sys2Proof/Machine/Flags.lean ====
section
/-! DEFINITION. The status flags and the error codes (10_state R34 to R36, 30_encoding R108, R109). -/

namespace Sys2Proof.Machine

/-- The unit is busy when `st` is none of `IDLE`, `DONE`, `ERROR` (R34). -/
def busy (m : State) : Bool :=
  match m.st with
  | .idle | .done | .error => false
  | .check | .mxIn | .mxOut | .bmInit | .bmXor | .scLoad | .scArx
  | .scFfwd | .bmStore | .bmCommit | .rmFill | .rmIdx | .rmXorv => true

/-- `STATUS`, computed from `st` and `ec`: bit 0 `BUSY`, 1 `DONE`, 2 `ERROR`, 3 zero, 7:4 `ERRCODE`, 31:8 zero (R34). -/
def statusWord (m : State) : Word :=
  0#24 ++ m.ec ++ 0#1 ++ BitVec.ofBool (m.st == .error) ++ BitVec.ofBool (m.st == .done) ++ BitVec.ofBool (busy m)

/-- The error kinds (R35). `primitiveFailure` is the deriver's: the unit never writes it (60_exceptions R273). -/
inductive ErrCode where
  | invalidParameter
  | resourceExhaustion
  | primitiveFailure
deriving DecidableEq, Repr

/-- The codes of R35, R109. -/
def ErrCode.code : ErrCode → BitVec 4
  | .invalidParameter => 0x1#4
  | .resourceExhaustion => 0x2#4
  | .primitiveFailure => 0x3#4

/-- The command codes of `op` (10_state R27, 30_encoding R105). -/
def opCode : Op → BitVec 2
  | .none => 0#2
  | .mix => 1#2
  | .blockmix => 2#2
  | .romix => 3#2

end Sys2Proof.Machine
end

