-- ==== Sys2Proof/Machine/Ops.lean ====
section
/-! DEFINITION. The shared operations: over the stores `G`, `Y`, `V` (20_memory R63 to R65), free values (10_state R40),
the parameter tests and the error entry (42_romix R190, 60_exceptions R274), the host's responses and commands
(43_host R220 to R231). -/

namespace Sys2Proof.Machine

/-! Stores. -/

/-- What an unlisted Word reads as: 0 in a store of reset (DESIGN CHOICE, log entry 3), a free value in a store that has
been forgotten since (log entry 4). -/
def Store.unlisted (epoch a : Nat) : Word := if epoch = 0 then 0#32 else Config.freeWord epoch a

/-- The listed value at an address. -/
def findCell : List (Nat × Word) → Nat → Option Word
  | [], _ => none
  | (b, w) :: rest, a => if a = b then some w else findCell rest a

/-- Insert or replace a cell, addresses rising. -/
def putCell : List (Nat × Word) → Nat → Word → List (Nat × Word)
  | [], a, v => [(a, v)]
  | (b, w) :: rest, a, v =>
    if a < b then (a, v) :: (b, w) :: rest
    else if a = b then (a, v) :: rest
    else (b, w) :: putCell rest a v

/-- Remove a cell. -/
def dropCell : List (Nat × Word) → Nat → List (Nat × Word)
  | [], _ => []
  | (b, w) :: rest, a => if a = b then dropCell rest a else (b, w) :: dropCell rest a

/-- Read one Word. -/
def Store.read (m : Store) (a : Nat) : Word := (findCell m.cells a).getD (Store.unlisted m.epoch a)

/-- Write one Word, keeping the canonical form: in a store of reset, writing what an unlisted Word reads as removes the
cell. -/
def Store.write (m : Store) (a : Nat) (v : Word) : Store :=
  if m.epoch = 0 ∧ v = 0#32 then { m with cells := dropCell m.cells a }
  else { m with cells := putCell m.cells a v }

/-- `n` consecutive Words (`MemRead`, 20_memory R63). -/
def Store.readWords (m : Store) (a n : Nat) : List Word := (List.range n).map fun w => m.read (a + w)

/-- Consecutive Words written (`MemWrite`, 20_memory R63). -/
def Store.writeWords (m : Store) (a : Nat) : List Word → Store
  | [] => m
  | v :: rest => (m.write a v).writeWords (a + 1) rest

/-- The Block at a Word index. -/
def Store.readBlock (m : Store) (a : Nat) : Block := blockOf fun w => m.read (a + w)

/-- Addresses strictly rising. -/
def rising : List (Nat × Word) → Bool
  | [] => true
  | [_] => true
  | (a, _) :: (b, w) :: rest => decide (a < b) && rising ((b, w) :: rest)

/-- The canonical form (log entry 7): addresses strictly rising, and in a store of reset no cell equal to what an unlisted
Word reads as. -/
def Store.wf (m : Store) : Bool := rising m.cells && (m.epoch != 0 || m.cells.all fun c => c.2 != 0#32)

/-- Every listed address lies below a bound. -/
def Store.below (m : Store) (bound : Nat) : Bool := m.cells.all fun c => decide (c.1 < bound)

/-! Accesses by micro-operations: inside the capacity, or the model's fault (log entry 8). -/

/-- The number of Words of `G` and of `Y`: `32 * R_MAX` (10_state R23, R24). -/
def bufferWords (m : State) : Nat := 32 * m.cap.rMax

/-- Go on with `next` if the buffers reach Word `top`. -/
def withBuffer (m : State) (top : Nat) (next : Result) : Result :=
  if top ≤ bufferWords m then next else .fault .bufferRange

/-- Go on with `next` if the table store reaches Word `top` (20_memory R63). -/
def withTable (m : State) (top : Nat) (next : Result) : Result :=
  if top ≤ m.cap.vWords then next else .fault .tableRange

/-- Go on with `next` if the group has a last Block. -/
def withGroup (m : State) (next : Result) : Result :=
  if m.cfgR.toNat = 0 then .fault .emptyGroup else next

/-! Free values. -/

/-- Every register and store the spec makes "unspecified" when a busy unit is aborted (43_host R231) and at the reset input
(70_reset R310) takes a free value (log entry 4). -/
def forget (m : State) : State :=
  let n := m.free
  { m with
    g := { epoch := n + 1, cells := [] }, y := { epoch := n + 2, cells := [] }, v := { epoch := n + 3, cells := [] },
    x := blockOf fun w => Config.freeWord (n + 4) w, t := blockOf fun w => Config.freeWord (n + 5) w,
    i := Config.freeWord (n + 6) 0, j := Config.freeWord (n + 6) 1,
    k := (Config.freeWord (n + 6) 2).setWidth 10, d := (Config.freeWord (n + 6) 3).setWidth 2,
    s := (Config.freeWord (n + 6) 4).setWidth 5,
    ph := if (Config.freeWord (n + 6) 5).getLsbD 0 then .mix else .fill,
    free := n + 6 }

/-- The reset input (70_reset R310, R311): `st`, `op`, `ec`, `CFG_N`, `CFG_R` take their reset values and everything else
of the unit becomes unspecified. -/
def resetUnit (m : State) : State :=
  { forget m with st := .idle, op := .none, ec := 0#4, cfgN := 0#32, cfgR := 0#32 }

/-! Errors: the entry and the way out. -/

/-- The tests of `SQ.CHECK` in the order R190 writes them (60_exceptions R276): the first that fails. `32 * r * N` is
exact. `op` 0 takes the last branch, as the pseudocode's `else` (log entry 9). -/
def paramError (op : Op) (n r : Word) (cap : Config.Capacity) : Option ErrCode :=
  match op with
  | .mix => none
  | .blockmix =>
    if r.toNat = 0 then some .invalidParameter
    else if r.toNat > cap.rMax then some .resourceExhaustion
    else none
  | .romix | .none =>
    if validN n = false then some .invalidParameter
    else if r.toNat = 0 then some .invalidParameter
    else if r.toNat > cap.rMax then some .resourceExhaustion
    else if 32 * r.toNat * n.toNat > cap.vWords then some .resourceExhaustion
    else none

/-- The error entry, `raise E`: `ec <- code(E); st <- ERROR`, nothing else (60_exceptions R274). -/
def raiseError (e : ErrCode) (m : State) : State := { m with ec := e.code, st := .error }

/-- The answer to a host transaction (20_memory R74). -/
def respond (a : Response) (m : State) : State := { m with resp := some a }

/-- A start code: accepted from `IDLE`, `DONE` and `ERROR` (60_exceptions R277), refused while busy (R223, R228 to R230). -/
def startCommand (op : Op) (m : State) : State :=
  if busy m then respond .err m
  else respond .ok { m with op := op, ec := 0#4, st := .check }

/-- `ABORT`, accepted in every state (R231). -/
def abortCommand (m : State) : State :=
  respond .ok { (if busy m then forget m else m) with op := .none, ec := 0#4, st := .idle }

/-- `Command(v)`, a write of `v` to `CMD` (R223); all 32 bits are compared (R105, R107). -/
def command (v : Word) (m : State) : State :=
  if v = 4#32 then abortCommand m
  else if v = 1#32 then startCommand .mix m
  else if v = 2#32 then startCommand .blockmix m
  else if v = 3#32 then startCommand .romix m
  else respond .err m

/-- A transaction that is refused while busy (20_memory R75). -/
def unlessBusy (m accepted : State) : State := if busy m then respond .err m else accepted

/-- `HRD a` (R220). -/
def hostRead (a : BitVec 16) (m : State) : State :=
  match hostReg m.cap a with
  | .misaligned => respond .err m
  | .cmd => respond (.data 0#32) m
  | .status => respond (.data (statusWord m)) m
  | .cfgN => unlessBusy m (respond (.data m.cfgN) m)
  | .cfgR => unlessBusy m (respond (.data m.cfgR) m)
  | .g w => unlessBusy m (respond (.data (m.g.read w)) m)
  | .unmapped => respond .err m

/-- `HWR a, v` (R221). -/
def hostWrite (a : BitVec 16) (v : Word) (m : State) : State :=
  match hostReg m.cap a with
  | .misaligned => respond .err m
  | .cmd => command v m
  | .status => respond .err m
  | .cfgN => unlessBusy m (respond .ok { m with cfgN := v })
  | .cfgR => unlessBusy m (respond .ok { m with cfgR := v })
  | .g w => unlessBusy m (respond .ok { m with g := m.g.write w v })
  | .unmapped => respond .err m

end Sys2Proof.Machine
end

