-- ==== Sys2Proof/Machine/BlockMixer.lean ====
section
/-! DEFINITION. BlockMixer (41_blockmixer): `BM.INIT`, `BM.XOR`, `BM.STORE`, `BM.COMMIT`. -/

namespace Sys2Proof.Machine

/-- `BM.INIT` (R171): `T <- G[16*(2*r-1) ..]`, the last Block. -/
def execBmInit (m : State) : Result :=
  withGroup m <| withBuffer m (lastBlock m.cfgR.toNat + 16) <|
    .next { m with t := m.g.readBlock (lastBlock m.cfgR.toNat), k := 0#10, st := .bmXor }

/-- `BM.XOR` (R172). -/
def execBmXor (m : State) : Result :=
  withBuffer m (16 * m.k.toNat + 16) <|
    .next { m with t := zipBlock xor32 m.t (m.g.readBlock (16 * m.k.toNat)), st := .scLoad }

/-- `BM.STORE` (R173): the place is `pos(k)` of R174. `k < 2*r - 1` is written `k + 1 < 2*r`. -/
def execBmStore (m : State) : Result :=
  let p := pos m.cfgR.toNat m.k.toNat
  let m' := { m with y := m.y.writeWords (16 * p) m.t.toList }
  withBuffer m (16 * p + 16) <|
    .next (if m.k.toNat + 1 < 2 * m.cfgR.toNat then { m' with k := m.k + 1#10, st := .bmXor }
      else { m' with st := .bmCommit })

/-- The copy of `BM.COMMIT`: `G[0 .. 32*r-1] <- Y[0 .. 32*r-1]` (R175). -/
def commitGroup (m : State) : State :=
  { m with g := m.g.writeWords 0 (m.y.readWords 0 (32 * m.cfgR.toNat)) }

/-- What follows `BM.COMMIT` (R175). `i < N - 1` is written `i + 1 < N`; `op` other than 2 is ROMIX (log entry 9). -/
def afterCommit (m : State) : State :=
  if m.op = .blockmix then { m with st := .done }
  else if m.i.toNat + 1 < m.cfgN.toNat then
    { m with i := m.i + 1#32, st := match m.ph with | .fill => .rmFill | .mix => .rmIdx }
  else
    match m.ph with
    | .fill => { m with ph := .mix, i := 0#32, st := .rmIdx }
    | .mix => { m with st := .done }

/-- `BM.COMMIT` (R175). -/
def execBmCommit (m : State) : Result :=
  withBuffer m (32 * m.cfgR.toNat) <| .next (afterCommit (commitGroup m))

end Sys2Proof.Machine
end

