-- ==== Sys2Proof/Machine/Host.lean ====
section
/-! DEFINITION. The host transactions and commands (43_host_commands). -/

namespace Sys2Proof.Machine

/-- `HRD a` (R220). -/
def execHrd (a : BitVec 16) (m : State) : Result := .next (hostRead a m)

/-- `HWR a, v` (R221). -/
def execHwr (a : BitVec 16) (v : Word) (m : State) : Result := .next (hostWrite a v m)

/-- `MIX`, the effect of the write itself (R228): a write of 1 to `CMD` (R105). -/
def execMix (m : State) : Result := .next (startCommand .mix m)

/-- `BLOCKMIX`, the effect of the write itself (R229): a write of 2 to `CMD` (R105). -/
def execBlockmix (m : State) : Result := .next (startCommand .blockmix m)

/-- `ROMIX`, the effect of the write itself (R230): a write of 3 to `CMD` (R105). -/
def execRomix (m : State) : Result := .next (startCommand .romix m)

/-- `ABORT` (R231): a write of 4 to `CMD` (R105). -/
def execAbort (m : State) : Result := .next (abortCommand m)

end Sys2Proof.Machine
end

