-- ==== Sys2Proof/Machine/Rest.lean ====
section
/-! DEFINITION. The three resting states of the opcode table: in them the sequencer takes no step (30_encoding R110,
10_state R39, 43_host R232), so nothing changes (log entry 16). -/

namespace Sys2Proof.Machine

/-- `IDLE` (R110, R39). -/
def execIdle (m : State) : Result := .next m

/-- `DONE` (R110, R232). -/
def execDone (m : State) : Result := .next m

/-- `ERROR` (R110, R232, R274). -/
def execError (m : State) : Result := .next m

end Sys2Proof.Machine
end

