-- ==== Sys2Proof/Machine/Romix.lean ====
section
/-! DEFINITION. The ROMix controller, the parameter check and the MIX wrapper (42_romix). -/

namespace Sys2Proof.Machine

/-- Where a command that passes its check goes (R190, 30_encoding R112). -/
def afterCheck (m : State) : State :=
  match m.op with
  | .mix => { m with st := .mxIn }
  | .blockmix => { m with st := .bmInit }
  | .romix | .none => { m with i := 0#32, ph := .fill, st := .rmFill }

/-- `SQ.CHECK` (R190). -/
def execSqCheck (m : State) : Result :=
  .next (match paramError m.op m.cfgN m.cfgR m.cap with
    | some e => raiseError e m
    | none => afterCheck m)

/-- `RM.FILL` (R194): `MemWrite(i * 32 * r, 32 * r, G[0 .. 32*r-1])`. -/
def execRmFill (m : State) : Result :=
  let r := m.cfgR.toNat
  withBuffer m (32 * r) <| withTable m (entryBase r m.i.toNat + 32 * r) <|
    .next { m with v := m.v.writeWords (entryBase r m.i.toNat) (m.g.readWords 0 (32 * r)), st := .bmInit }

/-- `RM.IDX` (R195): `j <- and32(G[16*(2*r-1)], N - 1)`. -/
def execRmIdx (m : State) : Result :=
  withGroup m <| withBuffer m (lastBlock m.cfgR.toNat + 1) <|
    .next { m with j := and32 (m.g.read (lastBlock m.cfgR.toNat)) (m.cfgN - 1#32), st := .rmXorv }

/-- `RM.XORV` (R196): every Word of the group xored with the Word of table entry `j`. -/
def execRmXorv (m : State) : Result :=
  let r := m.cfgR.toNat
  let e := m.v.readWords (entryBase r m.j.toNat) (32 * r)
  withBuffer m (32 * r) <| withTable m (entryBase r m.j.toNat + 32 * r) <|
    .next { m with g := m.g.writeWords 0 (List.zipWith xor32 (m.g.readWords 0 (32 * r)) e), st := .bmInit }

/-- `MX.IN` (R191). -/
def execMxIn (m : State) : Result :=
  withBuffer m 16 <| .next { m with t := m.g.readBlock 0, st := .scLoad }

/-- `MX.OUT` (R192). -/
def execMxOut (m : State) : Result :=
  withBuffer m 16 <| .next { m with g := m.g.writeWords 0 m.t.toList, st := .done }

end Sys2Proof.Machine
end

