-- ==== Sys2Proof/Machine/StreamCore.lean ====
section
/-! DEFINITION. StreamCore (40_streamcore): `SC.LOAD`, `SC.ARX` with its 32 operand forms, `SC.FFWD`. -/

namespace Sys2Proof.Machine

/-- `SC.LOAD` (R141). -/
def execScLoad (m : State) : Result := .next { m with x := m.t, d := 0#2, s := 0#5, st := .scArx }

/-- One ARX step with given operand fields, and the advance of `s`, `d` or `st` (R142). -/
def arxStep (f : ArxOp) (m : State) : Result :=
  .next
    (if m.s.toNat < 31 then { m with x := arx m.x f, s := m.s + 1#5 }
     else if m.d.toNat < 3 then { m with x := arx m.x f, d := m.d + 1#2, s := 0#5 }
     else { m with x := arx m.x f, st := .scFfwd })

/-- `SC.ARX` (R142): the operand fields come from `SCHED[s]` (30_encoding R111, R116). -/
def execScArx (m : State) : Result := arxStep (schedOp m.s) m

/-- `SC.FFWD` (R143). -/
def execScFfwd (m : State) : Result :=
  .next { m with t := zipBlock add32 m.x m.t, st := if m.op = .mix then .mxOut else .bmStore }

/-! The operand forms (30_encoding R116): each the step of R142 with the fields of one row (log entry 15). -/

/-- `SC.ARX 4, 0, 12, 7`, the form `SCHED[0]` (R116, R142). -/
def execScArx_4_0_12_7 (m : State) : Result := arxStep { a := 4, b := 0, c := 12, n := 7 } m

/-- `SC.ARX 8, 4, 0, 9`, the form `SCHED[1]` (R116, R142). -/
def execScArx_8_4_0_9 (m : State) : Result := arxStep { a := 8, b := 4, c := 0, n := 9 } m

/-- `SC.ARX 12, 8, 4, 13`, the form `SCHED[2]` (R116, R142). -/
def execScArx_12_8_4_13 (m : State) : Result := arxStep { a := 12, b := 8, c := 4, n := 13 } m

/-- `SC.ARX 0, 12, 8, 18`, the form `SCHED[3]` (R116, R142). -/
def execScArx_0_12_8_18 (m : State) : Result := arxStep { a := 0, b := 12, c := 8, n := 18 } m

/-- `SC.ARX 9, 5, 1, 7`, the form `SCHED[4]` (R116, R142). -/
def execScArx_9_5_1_7 (m : State) : Result := arxStep { a := 9, b := 5, c := 1, n := 7 } m

/-- `SC.ARX 13, 9, 5, 9`, the form `SCHED[5]` (R116, R142). -/
def execScArx_13_9_5_9 (m : State) : Result := arxStep { a := 13, b := 9, c := 5, n := 9 } m

/-- `SC.ARX 1, 13, 9, 13`, the form `SCHED[6]` (R116, R142). -/
def execScArx_1_13_9_13 (m : State) : Result := arxStep { a := 1, b := 13, c := 9, n := 13 } m

/-- `SC.ARX 5, 1, 13, 18`, the form `SCHED[7]` (R116, R142). -/
def execScArx_5_1_13_18 (m : State) : Result := arxStep { a := 5, b := 1, c := 13, n := 18 } m

/-- `SC.ARX 14, 10, 6, 7`, the form `SCHED[8]` (R116, R142). -/
def execScArx_14_10_6_7 (m : State) : Result := arxStep { a := 14, b := 10, c := 6, n := 7 } m

/-- `SC.ARX 2, 14, 10, 9`, the form `SCHED[9]` (R116, R142). -/
def execScArx_2_14_10_9 (m : State) : Result := arxStep { a := 2, b := 14, c := 10, n := 9 } m

/-- `SC.ARX 6, 2, 14, 13`, the form `SCHED[10]` (R116, R142). -/
def execScArx_6_2_14_13 (m : State) : Result := arxStep { a := 6, b := 2, c := 14, n := 13 } m

/-- `SC.ARX 10, 6, 2, 18`, the form `SCHED[11]` (R116, R142). -/
def execScArx_10_6_2_18 (m : State) : Result := arxStep { a := 10, b := 6, c := 2, n := 18 } m

/-- `SC.ARX 3, 15, 11, 7`, the form `SCHED[12]` (R116, R142). -/
def execScArx_3_15_11_7 (m : State) : Result := arxStep { a := 3, b := 15, c := 11, n := 7 } m

/-- `SC.ARX 7, 3, 15, 9`, the form `SCHED[13]` (R116, R142). -/
def execScArx_7_3_15_9 (m : State) : Result := arxStep { a := 7, b := 3, c := 15, n := 9 } m

/-- `SC.ARX 11, 7, 3, 13`, the form `SCHED[14]` (R116, R142). -/
def execScArx_11_7_3_13 (m : State) : Result := arxStep { a := 11, b := 7, c := 3, n := 13 } m

/-- `SC.ARX 15, 11, 7, 18`, the form `SCHED[15]` (R116, R142). -/
def execScArx_15_11_7_18 (m : State) : Result := arxStep { a := 15, b := 11, c := 7, n := 18 } m

/-- `SC.ARX 1, 0, 3, 7`, the form `SCHED[16]` (R116, R142). -/
def execScArx_1_0_3_7 (m : State) : Result := arxStep { a := 1, b := 0, c := 3, n := 7 } m

/-- `SC.ARX 2, 1, 0, 9`, the form `SCHED[17]` (R116, R142). -/
def execScArx_2_1_0_9 (m : State) : Result := arxStep { a := 2, b := 1, c := 0, n := 9 } m

/-- `SC.ARX 3, 2, 1, 13`, the form `SCHED[18]` (R116, R142). -/
def execScArx_3_2_1_13 (m : State) : Result := arxStep { a := 3, b := 2, c := 1, n := 13 } m

/-- `SC.ARX 0, 3, 2, 18`, the form `SCHED[19]` (R116, R142). -/
def execScArx_0_3_2_18 (m : State) : Result := arxStep { a := 0, b := 3, c := 2, n := 18 } m

/-- `SC.ARX 6, 5, 4, 7`, the form `SCHED[20]` (R116, R142). -/
def execScArx_6_5_4_7 (m : State) : Result := arxStep { a := 6, b := 5, c := 4, n := 7 } m

/-- `SC.ARX 7, 6, 5, 9`, the form `SCHED[21]` (R116, R142). -/
def execScArx_7_6_5_9 (m : State) : Result := arxStep { a := 7, b := 6, c := 5, n := 9 } m

/-- `SC.ARX 4, 7, 6, 13`, the form `SCHED[22]` (R116, R142). -/
def execScArx_4_7_6_13 (m : State) : Result := arxStep { a := 4, b := 7, c := 6, n := 13 } m

/-- `SC.ARX 5, 4, 7, 18`, the form `SCHED[23]` (R116, R142). -/
def execScArx_5_4_7_18 (m : State) : Result := arxStep { a := 5, b := 4, c := 7, n := 18 } m

/-- `SC.ARX 11, 10, 9, 7`, the form `SCHED[24]` (R116, R142). -/
def execScArx_11_10_9_7 (m : State) : Result := arxStep { a := 11, b := 10, c := 9, n := 7 } m

/-- `SC.ARX 8, 11, 10, 9`, the form `SCHED[25]` (R116, R142). -/
def execScArx_8_11_10_9 (m : State) : Result := arxStep { a := 8, b := 11, c := 10, n := 9 } m

/-- `SC.ARX 9, 8, 11, 13`, the form `SCHED[26]` (R116, R142). -/
def execScArx_9_8_11_13 (m : State) : Result := arxStep { a := 9, b := 8, c := 11, n := 13 } m

/-- `SC.ARX 10, 9, 8, 18`, the form `SCHED[27]` (R116, R142). -/
def execScArx_10_9_8_18 (m : State) : Result := arxStep { a := 10, b := 9, c := 8, n := 18 } m

/-- `SC.ARX 12, 15, 14, 7`, the form `SCHED[28]` (R116, R142). -/
def execScArx_12_15_14_7 (m : State) : Result := arxStep { a := 12, b := 15, c := 14, n := 7 } m

/-- `SC.ARX 13, 12, 15, 9`, the form `SCHED[29]` (R116, R142). -/
def execScArx_13_12_15_9 (m : State) : Result := arxStep { a := 13, b := 12, c := 15, n := 9 } m

/-- `SC.ARX 14, 13, 12, 13`, the form `SCHED[30]` (R116, R142). -/
def execScArx_14_13_12_13 (m : State) : Result := arxStep { a := 14, b := 13, c := 12, n := 13 } m

/-- `SC.ARX 15, 14, 13, 18`, the form `SCHED[31]` (R116, R142). -/
def execScArx_15_14_13_18 (m : State) : Result := arxStep { a := 15, b := 14, c := 13, n := 18 } m
end Sys2Proof.Machine
end

