-- ==== Sys2Proof/Machine/Dispatch.lean ====
section
/-! DEFINITION. The dispatch: one arm per constructor of Instr, each one call of its meaning. -/

namespace Sys2Proof.Machine

def exec (i : Instr) (s : State) : Host.Outcome State Fault Refusal :=
  match i with
  -- host transactions and commands (43_host_commands)
  | .hrd a => Sys2Proof.Machine.execHrd a s
  | .hwr a v => Sys2Proof.Machine.execHwr a v s
  | .mix => Sys2Proof.Machine.execMix s
  | .blockmix => Sys2Proof.Machine.execBlockmix s
  | .romix => Sys2Proof.Machine.execRomix s
  | .abort => Sys2Proof.Machine.execAbort s
  -- sequencer states and micro-operations (30_encoding R110)
  | .idle => Sys2Proof.Machine.execIdle s
  | .sqCheck => Sys2Proof.Machine.execSqCheck s
  | .mxIn => Sys2Proof.Machine.execMxIn s
  | .mxOut => Sys2Proof.Machine.execMxOut s
  | .bmInit => Sys2Proof.Machine.execBmInit s
  | .bmXor => Sys2Proof.Machine.execBmXor s
  | .scLoad => Sys2Proof.Machine.execScLoad s
  | .scArx => Sys2Proof.Machine.execScArx s
  | .scFfwd => Sys2Proof.Machine.execScFfwd s
  | .bmStore => Sys2Proof.Machine.execBmStore s
  | .bmCommit => Sys2Proof.Machine.execBmCommit s
  | .rmFill => Sys2Proof.Machine.execRmFill s
  | .rmIdx => Sys2Proof.Machine.execRmIdx s
  | .rmXorv => Sys2Proof.Machine.execRmXorv s
  | .done => Sys2Proof.Machine.execDone s
  | .error => Sys2Proof.Machine.execError s
  -- the 32 operand forms of SC.ARX (30_encoding R116)
  | .scArx_4_0_12_7 => Sys2Proof.Machine.execScArx_4_0_12_7 s
  | .scArx_8_4_0_9 => Sys2Proof.Machine.execScArx_8_4_0_9 s
  | .scArx_12_8_4_13 => Sys2Proof.Machine.execScArx_12_8_4_13 s
  | .scArx_0_12_8_18 => Sys2Proof.Machine.execScArx_0_12_8_18 s
  | .scArx_9_5_1_7 => Sys2Proof.Machine.execScArx_9_5_1_7 s
  | .scArx_13_9_5_9 => Sys2Proof.Machine.execScArx_13_9_5_9 s
  | .scArx_1_13_9_13 => Sys2Proof.Machine.execScArx_1_13_9_13 s
  | .scArx_5_1_13_18 => Sys2Proof.Machine.execScArx_5_1_13_18 s
  | .scArx_14_10_6_7 => Sys2Proof.Machine.execScArx_14_10_6_7 s
  | .scArx_2_14_10_9 => Sys2Proof.Machine.execScArx_2_14_10_9 s
  | .scArx_6_2_14_13 => Sys2Proof.Machine.execScArx_6_2_14_13 s
  | .scArx_10_6_2_18 => Sys2Proof.Machine.execScArx_10_6_2_18 s
  | .scArx_3_15_11_7 => Sys2Proof.Machine.execScArx_3_15_11_7 s
  | .scArx_7_3_15_9 => Sys2Proof.Machine.execScArx_7_3_15_9 s
  | .scArx_11_7_3_13 => Sys2Proof.Machine.execScArx_11_7_3_13 s
  | .scArx_15_11_7_18 => Sys2Proof.Machine.execScArx_15_11_7_18 s
  | .scArx_1_0_3_7 => Sys2Proof.Machine.execScArx_1_0_3_7 s
  | .scArx_2_1_0_9 => Sys2Proof.Machine.execScArx_2_1_0_9 s
  | .scArx_3_2_1_13 => Sys2Proof.Machine.execScArx_3_2_1_13 s
  | .scArx_0_3_2_18 => Sys2Proof.Machine.execScArx_0_3_2_18 s
  | .scArx_6_5_4_7 => Sys2Proof.Machine.execScArx_6_5_4_7 s
  | .scArx_7_6_5_9 => Sys2Proof.Machine.execScArx_7_6_5_9 s
  | .scArx_4_7_6_13 => Sys2Proof.Machine.execScArx_4_7_6_13 s
  | .scArx_5_4_7_18 => Sys2Proof.Machine.execScArx_5_4_7_18 s
  | .scArx_11_10_9_7 => Sys2Proof.Machine.execScArx_11_10_9_7 s
  | .scArx_8_11_10_9 => Sys2Proof.Machine.execScArx_8_11_10_9 s
  | .scArx_9_8_11_13 => Sys2Proof.Machine.execScArx_9_8_11_13 s
  | .scArx_10_9_8_18 => Sys2Proof.Machine.execScArx_10_9_8_18 s
  | .scArx_12_15_14_7 => Sys2Proof.Machine.execScArx_12_15_14_7 s
  | .scArx_13_12_15_9 => Sys2Proof.Machine.execScArx_13_12_15_9 s
  | .scArx_14_13_12_13 => Sys2Proof.Machine.execScArx_14_13_12_13 s
  | .scArx_15_14_13_18 => Sys2Proof.Machine.execScArx_15_14_13_18 s

end Sys2Proof.Machine
end

