-- ==== Sys2Proof/Machine/Fetch.lean ====
section
/-! DEFINITION. Which agent moves next and what it performs (00_scope R17, 30_encoding R111), and the placing of one
instruction where the next step fetches it (log entry 14). -/

namespace Sys2Proof.Machine

/-- What one step does: perform an instruction on a state, or be done already. -/
inductive Fetched where
  | run (i : Instr) (m : State)
  | settled (m : State)

/-- The sequencer's next instruction is the code in `st`, decoded (30_encoding R110, R111). There is no other fetch
(20_memory R83). -/
def sequencerInstr (m : State) : Instr := decodeSt4 (stCode m.st)

/-- The next step (log entry 1): the first of `inputs` if there is one, else the sequencer. A record that is no row of
the table is reserved and refused (30_encoding R121, R107; log entry 11); so is a transaction of another width
(20_memory R72). -/
def fetch (m : State) : Fetched :=
  match m.inputs with
  | [] => .run (sequencerInstr m) m
  | .wait :: rest => .run (sequencerInstr m) { m with inputs := rest }
  | .txn w :: rest =>
    match decode (.ht49 w) with
    | .ok i => .run i { m with inputs := rest }
    | .error _ => .settled (respond .err { m with inputs := rest })
  | .otherWidth :: rest => .settled (respond .err { m with inputs := rest })
  | .reset :: rest => .settled (resetUnit { m with inputs := rest })

/-- The sequencer moves next. -/
def sequencerNext (m : State) : State :=
  match m.inputs with
  | [] => m
  | _ :: _ => { m with inputs := .wait :: m.inputs }

/-- `CFG_N`, `CFG_R` as `SQ.CHECK` passes them for a ROMIX: kept if they are, else `N = 2`, `r = 1`. -/
def passingConfig (m : State) : State :=
  if paramError .romix m.cfgN m.cfgR m.cap = none then m else { m with cfgN := 2#32, cfgR := 1#32 }

/-- The sequencer stands in state `st`, its program counter (10_state R26: `st` with `op`, `ph`, `i`, `k`) being that of a
command whose micro-operation `st` names, in its first iteration (log entry 14). -/
def inCommand (st : St) (m : State) : State :=
  match st with
  | .idle => { m with st := st, ec := 0#4, op := .none }
  | .error => { m with st := st, ec := ErrCode.invalidParameter.code, op := if m.op = .none then .romix else m.op }
  | .done | .check => { m with st := st, ec := 0#4, op := if m.op = .none then .romix else m.op }
  | .mxIn | .mxOut => { m with st := st, ec := 0#4, op := .mix }
  | .bmInit | .bmXor | .scLoad | .scArx | .scFfwd | .bmStore | .bmCommit =>
    { passingConfig m with st := st, ec := 0#4, op := .romix, i := 0#32, k := 0#10 }
  | .rmFill => { passingConfig m with st := st, ec := 0#4, op := .romix, ph := .fill, i := 0#32 }
  | .rmIdx | .rmXorv => { passingConfig m with st := st, ec := 0#4, op := .romix, ph := .mix, i := 0#32, j := 0#32 }

/-- Place a code where the next step fetches it: a state code in `st`; a schedule word, the schedule being constant, by
the index `s` that selects it; a record as the first input. -/
def placeCode (c : Code) (m : State) : State :=
  match c with
  | .st4 w => sequencerNext (inCommand (stOfCode w) m)
  | .sched17 w =>
    match schedIndex w with
    | some n => sequencerNext { inCommand .scArx m with s := BitVec.ofNat 5 n }
    | none => m
  | .ht49 w => { m with inputs := .txn w :: m.inputs }

end Sys2Proof.Machine
end

