-- ==== Sys2Proof/Machine/Step.lean ====
section
/-! DEFINITION. One step of the machine, and the host's placing of one instruction. -/

namespace Sys2Proof.Machine

/-- One step (00_scope R17): the agent that moves next performs one instruction. -/
def step (m : State) : Host.Outcome State Fault Refusal :=
  match fetch m with
  | .run i m' => exec i m'
  | .settled m' => .next m'

/-- `m` with the instruction of the given opcode-table bits where `step` fetches next (log entry 14). -/
def State.withFetchWord (m : State) (nbits w : Nat) : State := placeCode (tableCode nbits w) m

end Sys2Proof.Machine
end

