-- ==== Sys2Proof/Machine/Functions.lean ====
section
/-! DEFINITION. The functions the unit computes, as the spec writes them: `mix` (40_streamcore R140), `blockMix`
(41_blockmixer R170), `romix` (42_romix R193), and the byte packing outside the unit (20_memory R62). No meaning calls
them: they are what the micro-operations are stated to compute. A group is the list of its `32*r` Words. -/

namespace Sys2Proof.Machine

/-- `n` double-rounds, each the 32 steps of the schedule (R140, R149). -/
def doubleRounds : Nat → Block → Block
  | 0, x => x
  | n + 1, x => doubleRounds n (schedOps.foldl arx x)

/-- `mix(t)` (R140): 4 double-rounds, then the word-wise addition of the working copy and the input. -/
def mix (t : Block) : Block := zipBlock add32 (doubleRounds 4 t) t

/-- Block at Word index `a` of a group. -/
def groupBlock (g : List Word) (a : Nat) : Block := blockOf fun w => g.getD (a + w) 0#32

/-- The Words from index `a` on replaced by `ws`. -/
def putWords (y : List Word) (a : Nat) (ws : List Word) : List Word := y.take a ++ ws ++ y.drop (a + ws.length)

/-- The first `n` iterations of `blockMix` (R170): the running Block and the output so far. -/
def blockMixSteps (g : List Word) (r : Nat) : Nat → Block × List Word
  | 0 => (groupBlock g (lastBlock r), List.replicate (32 * r) 0#32)
  | k + 1 =>
    let before := blockMixSteps g r k
    let t := mix (zipBlock xor32 before.1 (groupBlock g (16 * k)))
    (t, putWords before.2 (16 * pos r k) t.toList)

/-- `blockMix(g, r)` (R170): `2*r` iterations. -/
def blockMix (g : List Word) (r : Nat) : List Word := (blockMixSteps g r (2 * r)).2

/-- The first `n` iterations of the fill pass (R193): the group and the table so far. -/
def romixFill (g : List Word) (r : Nat) : Nat → List Word × List (List Word)
  | 0 => (g, [])
  | i + 1 =>
    let before := romixFill g r i
    (blockMix before.1 r, before.2 ++ [before.1])

/-- The index of a mix iteration: `and32(g[16*(2*r-1)], N - 1)` (R193, R195). -/
def romixIndex (g : List Word) (n : Word) (r : Nat) : Nat := (and32 (g.getD (lastBlock r) 0#32) (n - 1#32)).toNat

/-- The first `n` iterations of the mix pass (R193). -/
def romixMix (v : List (List Word)) (g : List Word) (n : Word) (r : Nat) : Nat → List Word
  | 0 => g
  | i + 1 =>
    let before := romixMix v g n r i
    blockMix (List.zipWith xor32 before (v.getD (romixIndex before n r) [])) r

/-- `romix(g, N, r)` (R193). -/
def romix (g : List Word) (n : Word) (r : Nat) : List Word :=
  let filled := romixFill g r n.toNat
  romixMix filled.2 filled.1 n r n.toNat

/-- `unpack_le`: four bytes a Word, the first least significant (R62). A byte string whose length is not a multiple of 4
has no conversion (R62): `none`. -/
def unpackLe : List (BitVec 8) → Option (List Word)
  | [] => some []
  | b0 :: b1 :: b2 :: b3 :: rest => (unpackLe rest).map fun ws => (b3 ++ b2 ++ b1 ++ b0) :: ws
  | [_] | [_, _] | [_, _, _] => none

/-- `pack_le`: byte `4*w + t` is `(W[w] div 2^(8*t)) mod 256` (R62). -/
def packLe (ws : List Word) : List (BitVec 8) :=
  ws.flatMap fun w => [w.extractLsb' 0 8, w.extractLsb' 8 8, w.extractLsb' 16 8, w.extractLsb' 24 8]

end Sys2Proof.Machine
end

