-- ==== Sys2Proof/Machine/Pseudo.lean ====
section
/-! DEFINITION. The pseudo-instructions (30_encoding R120): abbreviations with a fixed expansion, never executed as a
unit. -/

namespace Sys2Proof.Machine

/-- `QR A, B, C, D`: four ARX steps, rotations 7, 9, 13, 18 (R120, 40_streamcore R146). -/
def qr (a b c d : Fin 16) : List ArxOp :=
  [{ a := b, b := a, c := d, n := 7 }, { a := c, b := b, c := a, n := 9 },
   { a := d, b := c, c := b, n := 13 }, { a := a, b := d, c := c, n := 18 }]

/-- `COLROUND` (R120, R147). -/
def colRound : List ArxOp := qr 0 4 8 12 ++ qr 5 9 13 1 ++ qr 10 14 2 6 ++ qr 15 3 7 11

/-- `ROWROUND` (R120, R148). -/
def rowRound : List ArxOp := qr 0 1 2 3 ++ qr 5 6 7 4 ++ qr 10 11 8 9 ++ qr 15 12 13 14

/-- `DROUND` (R120, R149). -/
def dRound : List ArxOp := colRound ++ rowRound

/-- ARX steps applied in order. -/
def applyArx (ops : List ArxOp) (x : Block) : Block := ops.foldl arx x

/-- `SETN v` (R120). -/
def setN (v : Word) : Instr := .hwr 0x0008#16 v

/-- `SETR v` (R120). -/
def setR (v : Word) : Instr := .hwr 0x000C#16 v

/-- `HWR G[w], v` for consecutive `w` (R119, R120). -/
def loadWords (w : Nat) : List Word → List Instr
  | [] => []
  | v :: rest => .hwr (gOffset w) v :: loadWords (w + 1) rest

/-- `LOADG b0 .. b(m-1)` (R120): `none` where the bytes have no conversion. -/
def loadG (bytes : List (BitVec 8)) : Option (List Instr) := (unpackLe bytes).map (loadWords 0)

/-- `WAIT` (R120), one round of it: a read of `STATUS`. -/
def waitPoll : Instr := .hrd 0x0004#16

/-- `WAIT` ends when the answer has bit 0 clear (R120, 43_host R232). -/
def waitOver (m : State) : Bool :=
  match m.resp with
  | some (.data v) => !v.getLsbD 0
  | some .ok | some .err | none => false

end Sys2Proof.Machine
end

