-- ==== Sys2Proof/Safety.lean ====
section
/-! DEFINITION. What the statements call safe: the invariant of the transition table (30_encoding R112) with the bounds
that `SQ.CHECK` establishes (20_memory R69), and a step that does not stop. -/

namespace Sys2Proof.Machine

/-- The capacities are legal: `1 <= R_MAX <= 480` (00_scope R9). -/
def capOk (m : State) : Bool := decide (1 ≤ m.cap.rMax) && decide (m.cap.rMax ≤ 480)

/-- The three stores are in canonical form and list no Word that does not exist (10_state R23 to R25). -/
def storesOk (m : State) : Bool :=
  m.g.wf && m.y.wf && m.v.wf && m.g.below (bufferWords m) && m.y.below (bufferWords m) && m.v.below m.cap.vWords

/-- `ec` is 0 but in `ERROR`, where it is the code of an error the unit raises (10_state R35, 60_exceptions R273). -/
def ecOk (m : State) : Bool :=
  match m.st with
  | .error => m.ec == ErrCode.invalidParameter.code || m.ec == ErrCode.resourceExhaustion.code
  | .idle | .check | .mxIn | .mxOut | .bmInit | .bmXor | .scLoad | .scArx
  | .scFfwd | .bmStore | .bmCommit | .rmFill | .rmIdx | .rmXorv | .done => m.ec == 0#4

/-- The parameters passed `SQ.CHECK` for the operation in progress (42_romix R190). -/
def checked (m : State) : Bool := m.op != .none && (paramError m.op m.cfgN m.cfgR m.cap).isNone

/-- A group operation is in progress, its ROMix index in range (30_encoding R112: `0 <= i <= N-1`). -/
def grouped (m : State) : Bool :=
  checked m && m.op != .mix && (m.op != .romix || decide (m.i.toNat < m.cfgN.toNat))

/-- The BlockMixer index is in range (30_encoding R112: `0 <= k <= 2*r-1`). -/
def kOk (m : State) : Bool := decide (m.k.toNat < 2 * m.cfgR.toNat)

/-- What holds in each sequencer state: the invariants of R112. -/
def controlOk (m : State) : Bool :=
  match m.st with
  | .idle => m.op == .none
  | .done | .error | .check => m.op != .none
  | .mxIn | .mxOut => m.op == .mix
  | .bmInit | .bmCommit => grouped m
  | .bmXor | .bmStore => grouped m && kOk m
  | .scLoad | .scArx | .scFfwd => m.op == .mix || (grouped m && kOk m)
  | .rmFill => grouped m && m.op == .romix && m.ph == .fill
  | .rmIdx => grouped m && m.op == .romix && m.ph == .mix
  | .rmXorv => grouped m && m.op == .romix && m.ph == .mix && decide (m.j.toNat < m.cfgN.toNat)

/-- The invariant of the machine. -/
def Inv (m : State) : Prop := capOk m = true ∧ storesOk m = true ∧ ecOk m = true ∧ controlOk m = true

/-- One row of the schedule table of 30_encoding R116: the step `s`, the schedule word, the fields, the opcode-table form. -/
structure SchedRow where
  s : Nat
  word : BitVec 17
  op : ArxOp
  form : Instr

/-- The table of R116 as the spec prints it, row by row. The statements use it; no meaning does. -/
def schedRows : List SchedRow :=
  [{ s := 0, word := 0x08187#17, op := { a := 4, b := 0, c := 12, n := 7 }, form := .scArx_4_0_12_7 },
   { s := 1, word := 0x10809#17, op := { a := 8, b := 4, c := 0, n := 9 }, form := .scArx_8_4_0_9 },
   { s := 2, word := 0x1908D#17, op := { a := 12, b := 8, c := 4, n := 13 }, form := .scArx_12_8_4_13 },
   { s := 3, word := 0x01912#17, op := { a := 0, b := 12, c := 8, n := 18 }, form := .scArx_0_12_8_18 }] ++
  [{ s := 4, word := 0x12A27#17, op := { a := 9, b := 5, c := 1, n := 7 }, form := .scArx_9_5_1_7 },
   { s := 5, word := 0x1B2A9#17, op := { a := 13, b := 9, c := 5, n := 9 }, form := .scArx_13_9_5_9 },
   { s := 6, word := 0x03B2D#17, op := { a := 1, b := 13, c := 9, n := 13 }, form := .scArx_1_13_9_13 },
   { s := 7, word := 0x0A3B2#17, op := { a := 5, b := 1, c := 13, n := 18 }, form := .scArx_5_1_13_18 }] ++
  [{ s := 8, word := 0x1D4C7#17, op := { a := 14, b := 10, c := 6, n := 7 }, form := .scArx_14_10_6_7 },
   { s := 9, word := 0x05D49#17, op := { a := 2, b := 14, c := 10, n := 9 }, form := .scArx_2_14_10_9 },
   { s := 10, word := 0x0C5CD#17, op := { a := 6, b := 2, c := 14, n := 13 }, form := .scArx_6_2_14_13 },
   { s := 11, word := 0x14C52#17, op := { a := 10, b := 6, c := 2, n := 18 }, form := .scArx_10_6_2_18 }] ++
  [{ s := 12, word := 0x07F67#17, op := { a := 3, b := 15, c := 11, n := 7 }, form := .scArx_3_15_11_7 },
   { s := 13, word := 0x0E7E9#17, op := { a := 7, b := 3, c := 15, n := 9 }, form := .scArx_7_3_15_9 },
   { s := 14, word := 0x16E6D#17, op := { a := 11, b := 7, c := 3, n := 13 }, form := .scArx_11_7_3_13 },
   { s := 15, word := 0x1F6F2#17, op := { a := 15, b := 11, c := 7, n := 18 }, form := .scArx_15_11_7_18 }] ++
  [{ s := 16, word := 0x02067#17, op := { a := 1, b := 0, c := 3, n := 7 }, form := .scArx_1_0_3_7 },
   { s := 17, word := 0x04209#17, op := { a := 2, b := 1, c := 0, n := 9 }, form := .scArx_2_1_0_9 },
   { s := 18, word := 0x0642D#17, op := { a := 3, b := 2, c := 1, n := 13 }, form := .scArx_3_2_1_13 },
   { s := 19, word := 0x00652#17, op := { a := 0, b := 3, c := 2, n := 18 }, form := .scArx_0_3_2_18 }] ++
  [{ s := 20, word := 0x0CA87#17, op := { a := 6, b := 5, c := 4, n := 7 }, form := .scArx_6_5_4_7 },
   { s := 21, word := 0x0ECA9#17, op := { a := 7, b := 6, c := 5, n := 9 }, form := .scArx_7_6_5_9 },
   { s := 22, word := 0x08ECD#17, op := { a := 4, b := 7, c := 6, n := 13 }, form := .scArx_4_7_6_13 },
   { s := 23, word := 0x0A8F2#17, op := { a := 5, b := 4, c := 7, n := 18 }, form := .scArx_5_4_7_18 }] ++
  [{ s := 24, word := 0x17527#17, op := { a := 11, b := 10, c := 9, n := 7 }, form := .scArx_11_10_9_7 },
   { s := 25, word := 0x11749#17, op := { a := 8, b := 11, c := 10, n := 9 }, form := .scArx_8_11_10_9 },
   { s := 26, word := 0x1316D#17, op := { a := 9, b := 8, c := 11, n := 13 }, form := .scArx_9_8_11_13 },
   { s := 27, word := 0x15312#17, op := { a := 10, b := 9, c := 8, n := 18 }, form := .scArx_10_9_8_18 }] ++
  [{ s := 28, word := 0x19FC7#17, op := { a := 12, b := 15, c := 14, n := 7 }, form := .scArx_12_15_14_7 },
   { s := 29, word := 0x1B9E9#17, op := { a := 13, b := 12, c := 15, n := 9 }, form := .scArx_13_12_15_9 },
   { s := 30, word := 0x1DB8D#17, op := { a := 14, b := 13, c := 12, n := 13 }, form := .scArx_14_13_12_13 },
   { s := 31, word := 0x1FDB2#17, op := { a := 15, b := 14, c := 13, n := 18 }, form := .scArx_15_14_13_18 }]

/-- What one ARX step with given fields does to the state (40_streamcore R142), written without the model's own `arx`:
`x[a]`, the counters, and that nothing else changes. -/
def ArxEffect (f : ArxOp) (s t : State) : Prop :=
  t.x[f.a] = s.x[f.a] ^^^ (s.x[f.b] + s.x[f.c]).rotateLeft f.n ∧
  (∀ w : Fin 16, w ≠ f.a → t.x[w] = s.x[w]) ∧
  (s.s.toNat < 31 → t.s.toNat = s.s.toNat + 1 ∧ t.d = s.d ∧ t.st = s.st) ∧
  (s.s.toNat = 31 ∧ s.d.toNat < 3 → t.s.toNat = 0 ∧ t.d.toNat = s.d.toNat + 1 ∧ t.st = s.st) ∧
  (s.s.toNat = 31 ∧ s.d.toNat = 3 → t.s = s.s ∧ t.d = s.d ∧ t.st = .scFfwd) ∧
  t = { s with x := t.x, s := t.s, d := t.d, st := t.st }

/-- Two states with the same control registers, configuration and inputs (10_state R41). -/
def SameControl (p q : State) : Prop :=
  p.st = q.st ∧ p.op = q.op ∧ p.ph = q.ph ∧ p.i = q.i ∧ p.k = q.k ∧ p.d = q.d ∧ p.s = q.s ∧
  p.cfgN = q.cfgN ∧ p.cfgR = q.cfgR ∧ p.cap = q.cap ∧ p.inputs = q.inputs

/-- `t` has the control registers of `u`: the "counter writes" and "to" columns of a row of 30_encoding R112. -/
def ControlAs (t u : State) : Prop :=
  t.st = u.st ∧ t.op = u.op ∧ t.ec = u.ec ∧ t.ph = u.ph ∧ t.i = u.i ∧ t.k = u.k ∧ t.d = u.d ∧ t.s = u.s

end Sys2Proof.Machine
end

