-- ==== Sys2Proof/Certificates/Slice0/Obligations.lean ====
section
/-! DEFINITION. The statements for the provers, each over all states (or all operands). Where a statement names
`Config.freeWord`'s places not at all, it holds whatever the free values are. A frame is written
`t = { s with f := t.f, … }`: every field but the named ones is as in `s`. -/

open Sys2Proof Sys2Proof.Machine

/-! ## Encodings -/

/-- Decoding an encoded well-formed instruction gives it back, every operand at every value (30_encoding R102 to R116). -/
def Obligations.DecodeOfEncode : Prop := ∀ i : Instr, i.wf = true → decode (encode i) = .ok i

/-- A code that decodes is the encoding of what it decodes to, which is well formed: no bit is ignored and no two rows
overlap (R106, R121). That a read record with data does not decode is the model's reading of R121 (log entry 11). -/
def Obligations.EncodeOfDecode : Prop := ∀ (c : Code) (i : Instr), decode c = .ok i → encode i = c ∧ i.wf = true

/-- Some codes the spec writes out (R105, R110, R116, 95 section 6.3) decode to what they stand for. -/
def Obligations.CodesWrittenInTheSpec : Prop :=
  decode (.ht49 0x0000400000000#49) = .ok (.hrd 0x0004#16) ∧
  decode (.ht49 0x11000CAFEF00D#49) = .ok (.hwr 0x1000#16 0xCAFEF00D#32) ∧
  decode (.ht49 0x1000000000003#49) = .ok .romix ∧
  decode (.ht49 0x1000000000005#49) = .ok (.hwr 0x0000#16 0x00000005#32) ∧
  decode (.st4 0x1#4) = .ok .sqCheck ∧
  decode (.st4 0xA#4) = .ok .bmCommit ∧
  decode (.sched17 0x08187#17) = .ok .scArx_4_0_12_7 ∧
  decode (.sched17 0x1FDB2#17) = .ok .scArx_15_14_13_18 ∧
  decode (.sched17 0x00000#17) = .error .reservedScheduleWord

/-- R106: of the overlapping `HT49` rows the most specific wins. -/
def Obligations.MostSpecificRecordWins : Prop :=
  ∀ (a : BitVec 16) (d : Word), decode (.ht49 (packRecord true a d)) = .ok
    (if a.toNat = 0 ∧ d.toNat = 1 then .mix
     else if a.toNat = 0 ∧ d.toNat = 2 then .blockmix
     else if a.toNat = 0 ∧ d.toNat = 3 then .romix
     else if a.toNat = 0 ∧ d.toNat = 4 then .abort
     else .hwr a d)

/-- R62: `unpack_le` and `pack_le` by their formulas, inverse to each other on the lengths `4*m`, and no conversion for a length that is no
multiple of 4. -/
def Obligations.BytePacking : Prop :=
  (∀ b : List (BitVec 8), b.length % 4 ≠ 0 → unpackLe b = none) ∧
  (∀ (b0 b1 b2 b3 : BitVec 8) (rest : List (BitVec 8)) (ws : List Word), unpackLe rest = some ws →
    ∃ w : Word, unpackLe (b0 :: b1 :: b2 :: b3 :: rest) = some (w :: ws) ∧
      w.toNat = b0.toNat + 2 ^ 8 * b1.toNat + 2 ^ 16 * b2.toNat + 2 ^ 24 * b3.toNat) ∧
  unpackLe [] = some [] ∧
  (∀ ws : List Word, unpackLe (packLe ws) = some ws) ∧
  (∀ (b : List (BitVec 8)) (ws : List Word), unpackLe b = some ws → packLe ws = b) ∧
  (∀ (ws : List Word) (w t : Nat), w < ws.length → t < 4 →
    ((packLe ws).getD (4 * w + t) 0#8).toNat = ((ws.getD w 0#32).toNat / 2 ^ (8 * t)) % 256)

/-! ## Words -/

/-- R12: the four Word primitives as natural-number formulas. -/
def Obligations.WordPrimitives : Prop :=
  (∀ a b : Word, (add32 a b).toNat = (a.toNat + b.toNat) % 2 ^ 32) ∧
  (∀ (v : Word) (n : Nat), 1 ≤ n → n ≤ 31 →
    (rotl32 v n).toNat = (v.toNat * 2 ^ n) % 2 ^ 32 + v.toNat / 2 ^ (32 - n)) ∧
  (∀ (a b : Word) (n : Nat), (xor32 a b).getLsbD n = (a.getLsbD n != b.getLsbD n)) ∧
  (∀ (a b : Word) (n : Nat), (and32 a b).getLsbD n = (a.getLsbD n && b.getLsbD n))

/-- R198: `valid_N`, and that its 32-bit values are exactly `2^1, …, 2^31`. -/
def Obligations.ValidCostFactors : Prop :=
  ∀ n : Word, (validN n = true ↔ 2 ≤ n.toNat ∧ n &&& (n - 1#32) = 0#32) ∧
    (validN n = true ↔ ∃ e : Nat, 1 ≤ e ∧ e ≤ 31 ∧ n.toNat = 2 ^ e)

/-! ## StreamCore -/

/-- R141. -/
def Obligations.ScLoadStartsAPass : Prop :=
  decode (.st4 0x6#4) = .ok .scLoad ∧
  ∀ s : State, ∃ t : State, exec .scLoad s = .next t ∧ (∀ w : Fin 16, t.x[w] = s.t[w]) ∧
    t.d.toNat = 0 ∧ t.s.toNat = 0 ∧ t.st = .scArx ∧ t = { s with x := t.x, d := t.d, s := t.s, st := t.st }

/-- R116 with R142: each row of the schedule decodes to its form, and the form completes with the effect of its fields. That the form alone, whatever `s` is, has this effect is the model's
reading of the opcode table's rows (log entry 15). -/
def Obligations.ScheduleFormsStep : Prop :=
  ∀ row ∈ schedRows, decode (.sched17 row.word) = .ok row.form ∧
    ∀ s : State, ∃ t : State, exec row.form s = .next t ∧ ArxEffect row.op s t

/-- R117: the eight quarter-rounds of the schedule, four steps each. -/
def Obligations.ScheduleIsEightQuarterRounds : Prop :=
  ∀ (q : Fin 8) (a b c d : Fin 16),
    ([(0, 4, 8, 12), (5, 9, 13, 1), (10, 14, 2, 6), (15, 3, 7, 11),
      (0, 1, 2, 3), (5, 6, 7, 4), (10, 11, 8, 9), (15, 12, 13, 14)] :
        List (Fin 16 × Fin 16 × Fin 16 × Fin 16))[q.val]? = some (a, b, c, d) →
    schedOp (BitVec.ofNat 5 (4 * q.val)) = { a := b, b := a, c := d, n := 7 } ∧
    schedOp (BitVec.ofNat 5 (4 * q.val + 1)) = { a := c, b := b, c := a, n := 9 } ∧
    schedOp (BitVec.ofNat 5 (4 * q.val + 2)) = { a := d, b := c, c := b, n := 13 } ∧
    schedOp (BitVec.ofNat 5 (4 * q.val + 3)) = { a := a, b := d, c := c, n := 18 }

/-- R142: `SC.ARX` takes its operand fields from `SCHED[s]`: in every state exactly one row of R116 is selected by `s`,
and the step is that row's form. -/
def Obligations.ScArxFollowsTheSchedule : Prop :=
  decode (.st4 0x7#4) = .ok .scArx ∧
  ∀ s : State, ∃ row ∈ schedRows, row.s = s.s.toNat ∧ (∀ r ∈ schedRows, r.s = s.s.toNat → r.word = row.word) ∧
    schedFields row.word = row.op ∧
    exec .scArx s = exec row.form s ∧ ∃ t : State, exec .scArx s = .next t ∧ ArxEffect row.op s t

/-- R143: the feed-forward, Word by Word, no carry between Words. -/
def Obligations.ScFfwdAddsTheInput : Prop :=
  decode (.st4 0x8#4) = .ok .scFfwd ∧
  ∀ s : State, ∃ t : State, exec .scFfwd s = .next t ∧
    (∀ w : Fin 16, t.t[w].toNat = (s.x[w].toNat + s.t[w].toNat) % 2 ^ 32) ∧
    (s.op = .mix → t.st = .mxOut) ∧ (s.op ≠ .mix → t.st = .bmStore) ∧ t = { s with t := t.t, st := t.st }

/-- R144: a StreamCore pass is the 130 steps `SC.LOAD`, 128 times `SC.ARX`, `SC.FFWD`, and takes `T` to `mix(T)`. -/
def Obligations.StreamCorePass : Prop :=
  ∀ s : State, s.st = .scLoad → s.inputs = [] →
    (∀ n : Nat, n < 128 → ∃ u : State, Host.Core.run Sys2Proof.core (1 + n) s = .next u ∧ u.st = .scArx) ∧
    (∃ u : State, Host.Core.run Sys2Proof.core 129 s = .next u ∧ u.st = .scFfwd) ∧
    ∃ t : State, Host.Core.run Sys2Proof.core 130 s = .next t ∧ t.t = mix s.t ∧ t.x = doubleRounds 4 s.t ∧
      t.d.toNat = 3 ∧ t.s.toNat = 31 ∧ (s.op = .mix → t.st = .mxOut) ∧ (s.op ≠ .mix → t.st = .bmStore) ∧
      t = { s with x := t.x, t := t.t, d := t.d, s := t.s, st := t.st }

/-- R146: the quarter-round on four different registers, and that it touches no other. -/
def Obligations.QuarterRound : Prop :=
  ∀ (x : Block) (a b c d : Fin 16), a ≠ b → a ≠ c → a ≠ d → b ≠ c → b ≠ d → c ≠ d →
    ∃ nb nc nd na : Word,
      nb = x[b] ^^^ (x[a] + x[d]).rotateLeft 7 ∧ nc = x[c] ^^^ (nb + x[a]).rotateLeft 9 ∧
      nd = x[d] ^^^ (nc + nb).rotateLeft 13 ∧ na = x[a] ^^^ (nd + nc).rotateLeft 18 ∧
      (applyArx (qr a b c d) x)[a] = na ∧ (applyArx (qr a b c d) x)[b] = nb ∧
      (applyArx (qr a b c d) x)[c] = nc ∧ (applyArx (qr a b c d) x)[d] = nd ∧
      ∀ w : Fin 16, w ≠ a → w ≠ b → w ≠ c → w ≠ d → (applyArx (qr a b c d) x)[w] = x[w]

/-- R150: every step of the schedule is undone by repeating it, so the ARX steps of a pass can be undone; and `mix` of
the zero Block is the zero Block. -/
def Obligations.ArxStepsAreUndone : Prop :=
  (∀ row ∈ schedRows, ∀ x : Block, arx (arx x row.op) row.op = x) ∧
  (∃ undo : Block → Block, ∀ x : Block, undo (doubleRounds 4 x) = x ∧ doubleRounds 4 (undo x) = x) ∧
  mix zeroBlock = zeroBlock

/-! ## BlockMixer -/

/-- R174: the interleave position, and that it places every Block once; and why the output needs its own buffer (R324):
an odd `k` before the last is placed on an input Block not read yet. -/
def Obligations.InterleavePlaces : Prop :=
  ∀ r : Nat,
    (∀ k, k % 2 = 0 → pos r k = k / 2) ∧ (∀ k, k % 2 = 1 → pos r k = r + (k - 1) / 2) ∧
    (∀ k, k < 2 * r → pos r k < 2 * r) ∧
    (∀ k k', k < 2 * r → k' < 2 * r → pos r k = pos r k' → k = k') ∧
    (∀ p, p < 2 * r → ∃ k, k < 2 * r ∧ pos r k = p) ∧
    (∀ k, k % 2 = 1 → k < 2 * r - 1 → k < pos r k)

/-- R171. -/
def Obligations.BmInitLoadsTheLastBlock : Prop :=
  decode (.st4 0x4#4) = .ok .bmInit ∧
  ∀ s : State, 1 ≤ s.cfgR.toNat → s.cfgR.toNat ≤ s.cap.rMax →
    ∃ t : State, exec .bmInit s = .next t ∧
      (∀ w : Fin 16, t.t[w] = s.g.read (16 * (2 * s.cfgR.toNat - 1) + w)) ∧ t.k.toNat = 0 ∧ t.st = .bmXor ∧
      t = { s with t := t.t, k := t.k, st := t.st }

/-- R172. -/
def Obligations.BmXorFoldsBlockK : Prop :=
  decode (.st4 0x5#4) = .ok .bmXor ∧
  ∀ s : State, s.k.toNat < 2 * s.cfgR.toNat → s.cfgR.toNat ≤ s.cap.rMax →
    ∃ t : State, exec .bmXor s = .next t ∧
      (∀ w : Fin 16, t.t[w] = s.t[w] ^^^ s.g.read (16 * s.k.toNat + w)) ∧ t.st = .scLoad ∧
      t = { s with t := t.t, st := t.st }

/-- R173. `r <= 480` is the bound of 00_scope R9 that makes `k + 1` fit its 10 bits. -/
def Obligations.BmStoreInterleaves : Prop :=
  decode (.st4 0x9#4) = .ok .bmStore ∧
  ∀ s : State, s.k.toNat < 2 * s.cfgR.toNat → s.cfgR.toNat ≤ s.cap.rMax → s.cap.rMax ≤ 480 →
    ∃ t : State, exec .bmStore s = .next t ∧
      (∀ w : Fin 16, t.y.read (16 * pos s.cfgR.toNat s.k.toNat + w) = s.t[w]) ∧
      (∀ a : Nat, (a < 16 * pos s.cfgR.toNat s.k.toNat ∨ 16 * pos s.cfgR.toNat s.k.toNat + 16 ≤ a) →
        t.y.read a = s.y.read a) ∧
      (s.k.toNat + 1 < 2 * s.cfgR.toNat → t.k.toNat = s.k.toNat + 1 ∧ t.st = .bmXor) ∧
      (s.k.toNat + 1 = 2 * s.cfgR.toNat → t.k = s.k ∧ t.st = .bmCommit) ∧
      t = { s with y := t.y, k := t.k, st := t.st }

/-- R175: the copy, the loop control, and that Words of `G` at `32*r` and above are not touched. -/
def Obligations.BmCommitCopiesAndGoesOn : Prop :=
  decode (.st4 0xA#4) = .ok .bmCommit ∧
  ∀ s : State, s.cfgR.toNat ≤ s.cap.rMax → s.op = .blockmix ∨ (s.op = .romix ∧ s.i.toNat < s.cfgN.toNat) →
    ∃ t : State, exec .bmCommit s = .next t ∧
      (∀ w : Nat, w < 32 * s.cfgR.toNat → t.g.read w = s.y.read w) ∧
      (∀ w : Nat, 32 * s.cfgR.toNat ≤ w → t.g.read w = s.g.read w) ∧
      (t.st = .done → (statusWord t).extractLsb' 0 3 = 2#3) ∧
      (s.op = .blockmix → t.st = .done ∧ t.i = s.i ∧ t.ph = s.ph) ∧
      (s.op = .romix → s.i.toNat + 1 < s.cfgN.toNat → t.i.toNat = s.i.toNat + 1 ∧ t.ph = s.ph ∧
        (s.ph = .fill → t.st = .rmFill) ∧ (s.ph = .mix → t.st = .rmIdx)) ∧
      (s.op = .romix → s.i.toNat + 1 = s.cfgN.toNat → s.ph = .fill → t.ph = .mix ∧ t.i.toNat = 0 ∧ t.st = .rmIdx) ∧
      (s.op = .romix → s.i.toNat + 1 = s.cfgN.toNat → s.ph = .mix → t.ph = .mix ∧ t.i = s.i ∧ t.st = .done) ∧
      t = { s with g := t.g, i := t.i, ph := t.ph, st := t.st }

/-- R177, first sentence: the Block of iteration `k` stands at Block `pos(k)` of the result. -/
def Obligations.BlockMixPlacement : Prop :=
  ∀ (g : List Word) (r k : Nat) (w : Fin 16), k < 2 * r →
    (blockMix g r).length = 32 * r ∧
    (blockMix g r).getD (16 * pos r k + w) 0#32 = (blockMixSteps g r (k + 1)).1[w]

/-- R176: a BlockMixer run is `2 + 264*r` steps, where each iteration stands, and it takes `G[0 .. 32*r-1]` to `blockMix`
of it. -/
def Obligations.BlockMixerRun : Prop :=
  ∀ s : State, s.st = .bmInit → s.inputs = [] → s.op = .blockmix ∨ s.op = .romix →
    1 ≤ s.cfgR.toNat → s.cfgR.toNat ≤ s.cap.rMax → s.cap.rMax ≤ 480 →
    (∀ k : Nat, k < 2 * s.cfgR.toNat →
      (∃ u : State, Host.Core.run Sys2Proof.core (1 + 132 * k) s = .next u ∧ u.st = .bmXor ∧ u.k.toNat = k) ∧
      (∃ u : State, Host.Core.run Sys2Proof.core (2 + 132 * k) s = .next u ∧ u.st = .scLoad ∧ u.k.toNat = k) ∧
      (∃ u : State, Host.Core.run Sys2Proof.core (132 + 132 * k) s = .next u ∧ u.st = .bmStore ∧ u.k.toNat = k)) ∧
    (∃ u : State, Host.Core.run Sys2Proof.core (1 + 264 * s.cfgR.toNat) s = .next u ∧ u.st = .bmCommit) ∧
    ∃ t : State, Host.Core.run Sys2Proof.core (2 + 264 * s.cfgR.toNat) s = .next t ∧
      t.g.readWords 0 (32 * s.cfgR.toNat) = blockMix (s.g.readWords 0 (32 * s.cfgR.toNat)) s.cfgR.toNat ∧
      (∀ w : Nat, 32 * s.cfgR.toNat ≤ w → t.g.read w = s.g.read w) ∧
      (s.op = .blockmix → t.st = .done) ∧ t.v = s.v ∧ t.cfgN = s.cfgN ∧ t.cfgR = s.cfgR

/-! ## ROMix and the check -/

/-- R190, R276: the tests in order, the codes, and that nothing else changes. -/
def Obligations.SqCheckOutcomes : Prop :=
  decode (.st4 0x1#4) = .ok .sqCheck ∧
  ∀ s : State, s.op ≠ .none → ∃ t : State, exec .sqCheck s = .next t ∧
    (s.op = .mix → t = { s with st := .mxIn }) ∧
    (s.op = .blockmix →
      (s.cfgR.toNat = 0 → t = { s with ec := 1#4, st := .error } ∧ statusWord t = 0x00000014#32) ∧
      (s.cfgR.toNat > s.cap.rMax → t = { s with ec := 2#4, st := .error } ∧ statusWord t = 0x00000024#32) ∧
      (1 ≤ s.cfgR.toNat ∧ s.cfgR.toNat ≤ s.cap.rMax → t = { s with st := .bmInit })) ∧
    (s.op = .romix →
      (¬(2 ≤ s.cfgN.toNat ∧ s.cfgN &&& (s.cfgN - 1#32) = 0#32) ∨ s.cfgR.toNat = 0 →
        t = { s with ec := 1#4, st := .error } ∧ statusWord t = 0x00000014#32) ∧
      ((2 ≤ s.cfgN.toNat ∧ s.cfgN &&& (s.cfgN - 1#32) = 0#32) →
        (s.cfgR.toNat > s.cap.rMax → t = { s with ec := 2#4, st := .error } ∧ statusWord t = 0x00000024#32) ∧
        (1 ≤ s.cfgR.toNat ∧ s.cfgR.toNat ≤ s.cap.rMax →
          (32 * s.cfgR.toNat * s.cfgN.toNat > s.cap.vWords →
            t = { s with ec := 2#4, st := .error } ∧ statusWord t = 0x00000024#32) ∧
          (32 * s.cfgR.toNat * s.cfgN.toNat ≤ s.cap.vWords →
            t = { s with i := 0#32, ph := .fill, st := .rmFill }))))

/-- R194: `V[i*32*r ..] <- G[0 .. 32*r-1]`, and every other Word of `V` as before. -/
def Obligations.RmFillStoresTheGroup : Prop :=
  decode (.st4 0xB#4) = .ok .rmFill ∧
  ∀ s : State, s.cfgR.toNat ≤ s.cap.rMax → s.i.toNat * 32 * s.cfgR.toNat + 32 * s.cfgR.toNat ≤ s.cap.vWords →
    ∃ t : State, exec .rmFill s = .next t ∧
      (∀ w : Nat, w < 32 * s.cfgR.toNat → t.v.read (s.i.toNat * 32 * s.cfgR.toNat + w) = s.g.read w) ∧
      (∀ a : Nat, (a < s.i.toNat * 32 * s.cfgR.toNat ∨
          s.i.toNat * 32 * s.cfgR.toNat + 32 * s.cfgR.toNat ≤ a) → t.v.read a = s.v.read a) ∧
      t.st = .bmInit ∧ t = { s with v := t.v, st := t.st }

/-- R195: `j` is the Word masked with `N - 1`, which for a valid `N` is the Word modulo `N`. -/
def Obligations.RmIdxReducesTheWord : Prop :=
  decode (.st4 0xC#4) = .ok .rmIdx ∧
  ∀ s : State, 1 ≤ s.cfgR.toNat → s.cfgR.toNat ≤ s.cap.rMax →
    ∃ t : State, exec .rmIdx s = .next t ∧
      t.j = s.g.read (16 * (2 * s.cfgR.toNat - 1)) &&& (s.cfgN - 1#32) ∧
      (validN s.cfgN = true → t.j.toNat = (s.g.read (16 * (2 * s.cfgR.toNat - 1))).toNat % s.cfgN.toNat ∧
        t.j.toNat ≤ s.cfgN.toNat - 1) ∧
      t.st = .rmXorv ∧ t = { s with j := t.j, st := t.st }

/-- R196: every Word of the group xored with the Word of entry `j`; `V` is not changed. -/
def Obligations.RmXorvFoldsTheEntry : Prop :=
  decode (.st4 0xD#4) = .ok .rmXorv ∧
  ∀ s : State, s.cfgR.toNat ≤ s.cap.rMax → s.j.toNat * 32 * s.cfgR.toNat + 32 * s.cfgR.toNat ≤ s.cap.vWords →
    ∃ t : State, exec .rmXorv s = .next t ∧
      (∀ w : Nat, w < 32 * s.cfgR.toNat →
        t.g.read w = s.g.read w ^^^ s.v.read (s.j.toNat * 32 * s.cfgR.toNat + w)) ∧
      (∀ w : Nat, 32 * s.cfgR.toNat ≤ w → t.g.read w = s.g.read w) ∧
      t.st = .bmInit ∧ t = { s with g := t.g, st := t.st }

/-- R191. -/
def Obligations.MxInLoadsBlockZero : Prop :=
  decode (.st4 0x2#4) = .ok .mxIn ∧
  ∀ s : State, 1 ≤ s.cap.rMax → ∃ t : State, exec .mxIn s = .next t ∧
    (∀ w : Fin 16, t.t[w] = s.g.read w) ∧ t.st = .scLoad ∧ t = { s with t := t.t, st := t.st }

/-- R192, the micro-operation. -/
def Obligations.MxOutReturnsBlockZero : Prop :=
  decode (.st4 0x3#4) = .ok .mxOut ∧
  ∀ s : State, 1 ≤ s.cap.rMax → ∃ t : State, exec .mxOut s = .next t ∧
    (∀ w : Fin 16, t.g.read w = s.t[w]) ∧ (∀ a : Nat, 16 ≤ a → t.g.read a = s.g.read a) ∧
    t.st = .done ∧ (statusWord t).extractLsb' 0 3 = 2#3 ∧ t = { s with g := t.g, st := t.st }

/-- R228, and R192's last sentence: `MIX` from the write to `DONE`, 133 steps of the sequencer later. -/
def Obligations.MixCommandRun : Prop :=
  decode (.ht49 0x1000000000001#49) = .ok .mix ∧
  (∀ s : State, busy s = true → exec .mix s = .next { s with resp := some .err }) ∧
  ∀ s : State, busy s = false → s.inputs = [] → 1 ≤ s.cap.rMax →
    ∃ u t : State, exec .mix s = .next u ∧ u = { s with op := .mix, ec := 0#4, st := .check, resp := some .ok } ∧
      statusWord u = 0x00000001#32 ∧ Host.Core.run Sys2Proof.core 133 u = .next t ∧ t.st = .done ∧
      statusWord t = 0x00000002#32 ∧
      (∀ w : Fin 16, t.g.read w = (mix (s.g.readBlock 0))[w]) ∧ (∀ a : Nat, 16 ≤ a → t.g.read a = s.g.read a) ∧
      t.cfgN = s.cfgN ∧ t.cfgR = s.cfgR ∧ t.v = s.v ∧ t.y = s.y

/-- R229: `BLOCKMIX` from the write to `DONE` or `ERROR`. -/
def Obligations.BlockmixCommandRun : Prop :=
  decode (.ht49 0x1000000000002#49) = .ok .blockmix ∧
  (∀ s : State, busy s = true → exec .blockmix s = .next { s with resp := some .err }) ∧
  ∀ s : State, busy s = false → s.inputs = [] → s.cap.rMax ≤ 480 →
    ∃ u : State, exec .blockmix s = .next u ∧
      u = { s with op := .blockmix, ec := 0#4, st := .check, resp := some .ok } ∧ statusWord u = 0x00000001#32 ∧
      (s.cfgR.toNat = 0 → Host.Core.run Sys2Proof.core 1 u = .next { u with ec := 1#4, st := .error }) ∧
      (s.cap.rMax < s.cfgR.toNat → Host.Core.run Sys2Proof.core 1 u = .next { u with ec := 2#4, st := .error }) ∧
      (1 ≤ s.cfgR.toNat ∧ s.cfgR.toNat ≤ s.cap.rMax →
        ∃ t : State, Host.Core.run Sys2Proof.core (3 + 264 * s.cfgR.toNat) u = .next t ∧ t.st = .done ∧
          statusWord t = 0x00000002#32 ∧
          t.g.readWords 0 (32 * s.cfgR.toNat) = blockMix (s.g.readWords 0 (32 * s.cfgR.toNat)) s.cfgR.toNat ∧
          (∀ w : Nat, 32 * s.cfgR.toNat ≤ w → t.g.read w = s.g.read w) ∧ t.v = s.v ∧ t.cfgN = s.cfgN ∧
          t.cfgR = s.cfgR)

/-- R197: a ROMIX that passes its check is `1 + N*(7 + 528*r)` steps: where each iteration of the two passes stands, and
that it leaves `romix` of the group. -/
def Obligations.RomixRun : Prop :=
  ∀ s : State, s.st = .check → s.op = .romix → s.inputs = [] → s.cap.rMax ≤ 480 →
    validN s.cfgN = true → 1 ≤ s.cfgR.toNat → s.cfgR.toNat ≤ s.cap.rMax →
    32 * s.cfgR.toNat * s.cfgN.toNat ≤ s.cap.vWords →
    (∀ i : Nat, i < s.cfgN.toNat →
      (∃ u : State, Host.Core.run Sys2Proof.core (1 + i * (3 + 264 * s.cfgR.toNat)) s = .next u ∧
        u.st = .rmFill ∧ u.i.toNat = i ∧ u.ph = .fill) ∧
      (∃ u : State, Host.Core.run Sys2Proof.core (2 + i * (3 + 264 * s.cfgR.toNat)) s = .next u ∧ u.st = .bmInit) ∧
      (∃ u : State, Host.Core.run Sys2Proof.core
          (1 + s.cfgN.toNat * (3 + 264 * s.cfgR.toNat) + i * (4 + 264 * s.cfgR.toNat)) s = .next u ∧
        u.st = .rmIdx ∧ u.i.toNat = i ∧ u.ph = .mix) ∧
      (∃ u : State, Host.Core.run Sys2Proof.core
          (2 + s.cfgN.toNat * (3 + 264 * s.cfgR.toNat) + i * (4 + 264 * s.cfgR.toNat)) s = .next u ∧ u.st = .rmXorv) ∧
      (∃ u : State, Host.Core.run Sys2Proof.core
          (3 + s.cfgN.toNat * (3 + 264 * s.cfgR.toNat) + i * (4 + 264 * s.cfgR.toNat)) s = .next u ∧
        u.st = .bmInit)) ∧
    ∃ t : State, Host.Core.run Sys2Proof.core (1 + s.cfgN.toNat * (7 + 528 * s.cfgR.toNat)) s = .next t ∧
      t.st = .done ∧
      t.g.readWords 0 (32 * s.cfgR.toNat) = romix (s.g.readWords 0 (32 * s.cfgR.toNat)) s.cfgN s.cfgR.toNat ∧
      (∀ w : Nat, 32 * s.cfgR.toNat ≤ w → t.g.read w = s.g.read w)

/-- R230: `ROMIX` from the write to `DONE` or `ERROR`. -/
def Obligations.RomixCommandRun : Prop :=
  decode (.ht49 0x1000000000003#49) = .ok .romix ∧
  (∀ s : State, busy s = true → exec .romix s = .next { s with resp := some .err }) ∧
  ∀ s : State, busy s = false → s.inputs = [] → s.cap.rMax ≤ 480 →
    ∃ u : State, exec .romix s = .next u ∧
      u = { s with op := .romix, ec := 0#4, st := .check, resp := some .ok } ∧ statusWord u = 0x00000001#32 ∧
      (validN s.cfgN = false ∨ s.cfgR.toNat = 0 →
        Host.Core.run Sys2Proof.core 1 u = .next { u with ec := 1#4, st := .error }) ∧
      (validN s.cfgN = true → 1 ≤ s.cfgR.toNat →
        s.cap.rMax < s.cfgR.toNat ∨ s.cap.vWords < 32 * s.cfgR.toNat * s.cfgN.toNat →
        Host.Core.run Sys2Proof.core 1 u = .next { u with ec := 2#4, st := .error }) ∧
      (validN s.cfgN = true → 1 ≤ s.cfgR.toNat → s.cfgR.toNat ≤ s.cap.rMax →
        32 * s.cfgR.toNat * s.cfgN.toNat ≤ s.cap.vWords →
        ∃ t : State, Host.Core.run Sys2Proof.core (1 + s.cfgN.toNat * (7 + 528 * s.cfgR.toNat)) u = .next t ∧
          t.st = .done ∧ statusWord t = 0x00000002#32 ∧
          t.g.readWords 0 (32 * s.cfgR.toNat) = romix (s.g.readWords 0 (32 * s.cfgR.toNat)) s.cfgN s.cfgR.toNat ∧
          (∀ w : Nat, 32 * s.cfgR.toNat ≤ w → t.g.read w = s.g.read w) ∧ t.cfgN = s.cfgN ∧ t.cfgR = s.cfgR)

/-- 20_memory R69: the entries that the two table accesses reach lie inside the table store. -/
def Obligations.TableAddressesInBounds : Prop :=
  ∀ s : State, Inv s →
    (s.st = .rmFill → s.i.toNat < s.cfgN.toNat ∧
      s.i.toNat * 32 * s.cfgR.toNat + 32 * s.cfgR.toNat ≤ 32 * s.cfgR.toNat * s.cfgN.toNat ∧
      32 * s.cfgR.toNat * s.cfgN.toNat ≤ s.cap.vWords) ∧
    (s.st = .rmXorv → s.j.toNat < s.cfgN.toNat ∧
      s.j.toNat * 32 * s.cfgR.toNat + 32 * s.cfgR.toNat ≤ 32 * s.cfgR.toNat * s.cfgN.toNat ∧
      32 * s.cfgR.toNat * s.cfgN.toNat ≤ s.cap.vWords)

/-- R274, R275: an error entry changes `ec` and `st` and nothing else, the `STATUS` it leaves, that `ERROR` rests, and
that the data is what it was when the command was written. -/
def Obligations.ErrorEntry : Prop :=
  (∀ s t : State, exec .sqCheck s = .next t → t.st = .error →
    ((t = { s with ec := 1#4, st := .error } ∧ statusWord t = 0x00000014#32) ∨
      (t = { s with ec := 2#4, st := .error } ∧ statusWord t = 0x00000024#32)) ∧
    exec .error t = .next t) ∧
  ∀ (i : Instr) (s u t : State), i ∈ [Instr.mix, .blockmix, .romix] → busy s = false →
    exec i s = .next u → exec .sqCheck u = .next t → t.st = .error →
    t.g = s.g ∧ t.v = s.v ∧ t.y = s.y ∧ t.t = s.t ∧ t.x = s.x ∧ t.cfgN = s.cfgN ∧ t.cfgR = s.cfgR

/-- R277: the ways out of `ERROR`, what does not leave it, where errors arise, and that the same command gives the same
error. -/
def Obligations.LeavingError : Prop :=
  (∀ s : State, s.st = .error →
    exec .abort s = .next { s with op := .none, ec := 0#4, st := .idle, resp := some .ok } ∧
    exec .mix s = .next { s with op := .mix, ec := 0#4, st := .check, resp := some .ok } ∧
    exec .blockmix s = .next { s with op := .blockmix, ec := 0#4, st := .check, resp := some .ok } ∧
    exec .romix s = .next { s with op := .romix, ec := 0#4, st := .check, resp := some .ok } ∧
    exec .error s = .next s ∧
    (∀ v : Word, exec (.hwr 0x0008#16 v) s = .next { s with cfgN := v, resp := some .ok } ∧
      exec (.hwr 0x000C#16 v) s = .next { s with cfgR := v, resp := some .ok }) ∧
    ∀ (a : BitVec 16) (v : Word), a ≠ 0x0000#16 →
      ∃ t : State, exec (.hwr a v) s = .next t ∧ t.st = .error ∧ t.ec = s.ec) ∧
  (∀ (i : Instr) (s t : State), exec i s = .next t → t.st = .error → s.st = .error ∨ i = .sqCheck) ∧
  ∀ (s t u : State), exec .sqCheck s = .next t → t.st = .error →
    exec .sqCheck { t with op := s.op, ec := 0#4, st := .check } = .next u → u.st = .error ∧ u.ec = t.ec

/-- 20_memory R63, 60_exceptions R289 (DESIGN CHOICE, log entry 8): where a micro-operation would reach a Word that does
not exist, the model stops. -/
def Obligations.AccessesThatDoNotExistStop : Prop :=
  ∀ s : State,
    (s.cfgR.toNat = 0 → exec .bmInit s = .fault .emptyGroup ∧ exec .rmIdx s = .fault .emptyGroup) ∧
    (s.cap.rMax < s.cfgR.toNat → exec .bmInit s = .fault .bufferRange ∧ exec .bmCommit s = .fault .bufferRange ∧
      exec .rmFill s = .fault .bufferRange ∧ exec .rmIdx s = .fault .bufferRange ∧
      exec .rmXorv s = .fault .bufferRange) ∧
    (2 * s.cap.rMax ≤ s.k.toNat → exec .bmXor s = .fault .bufferRange) ∧
    (2 * s.cap.rMax ≤ pos s.cfgR.toNat s.k.toNat → exec .bmStore s = .fault .bufferRange) ∧
    (s.cap.rMax = 0 → exec .mxIn s = .fault .bufferRange ∧ exec .mxOut s = .fault .bufferRange) ∧
    (s.cfgR.toNat ≤ s.cap.rMax → s.cap.vWords < s.i.toNat * 32 * s.cfgR.toNat + 32 * s.cfgR.toNat →
      exec .rmFill s = .fault .tableRange) ∧
    (s.cfgR.toNat ≤ s.cap.rMax → s.cap.vWords < s.j.toNat * 32 * s.cfgR.toNat + 32 * s.cfgR.toNat →
      exec .rmXorv s = .fault .tableRange)

/-! ## The host -/

/-- R220: every host read completes, and changes the answer only (R76). -/
def Obligations.HrdAnswers : Prop :=
  (∀ a : BitVec 16, decode (.ht49 (packRecord false a 0#32)) = .ok (.hrd a)) ∧
  ∀ (a : BitVec 16) (s : State), ∃ r : Response, exec (.hrd a) s = .next { s with resp := some r } ∧
    r = if a.toNat % 4 ≠ 0 then .err
      else if a.toNat = 0x0000 then .data 0#32
      else if a.toNat = 0x0004 then .data (statusWord s)
      else if busy s = true then .err
      else if a.toNat = 0x0008 then .data s.cfgN
      else if a.toNat = 0x000C then .data s.cfgR
      else if 0x1000 ≤ a.toNat ∧ a.toNat < 0x1000 + 128 * s.cap.rMax then
        .data (s.g.read ((a.toNat - 0x1000) / 4))
      else .err

/-- R221, R223: a write to `CMD` is the command its data names, all 32 bits compared, any other value being refused; every
other host write completes too: refused, or one register written. -/
def Obligations.HwrWrites : Prop :=
  (∀ (a : BitVec 16) (v : Word), isCommandWrite a v = false →
    decode (.ht49 (packRecord true a v)) = .ok (.hwr a v)) ∧
  (∀ (v : Word) (s : State), exec (.hwr 0x0000#16 v) s =
    (if v.toNat = 4 then exec .abort s
     else if v.toNat = 1 then exec .mix s
     else if v.toNat = 2 then exec .blockmix s
     else if v.toNat = 3 then exec .romix s
     else .next { s with resp := some .err })) ∧
  ∀ (a : BitVec 16) (v : Word) (s : State), a.toNat ≠ 0x0000 →
    ∃ t : State, exec (.hwr a v) s = .next t ∧
      (a.toNat % 4 ≠ 0 ∨ a.toNat = 0x0004 ∨ busy s = true → t = { s with resp := some .err }) ∧
      (a.toNat % 4 = 0 → a.toNat ≠ 0x0004 → busy s = false →
        (a.toNat = 0x0008 → t = { s with cfgN := v, resp := some .ok }) ∧
        (a.toNat = 0x000C → t = { s with cfgR := v, resp := some .ok }) ∧
        (0x1000 ≤ a.toNat ∧ a.toNat < 0x1000 + 128 * s.cap.rMax →
          t.resp = some .ok ∧ t.g.read ((a.toNat - 0x1000) / 4) = v ∧
          (∀ w : Nat, w ≠ (a.toNat - 0x1000) / 4 → t.g.read w = s.g.read w) ∧
          t = { s with g := t.g, resp := t.resp }) ∧
        ((0x0010 ≤ a.toNat ∧ a.toNat < 0x1000) ∨ 0x1000 + 128 * s.cap.rMax ≤ a.toNat →
          t = { s with resp := some .err }))

/-- R228, R229, R230 (the effect of the write itself), R277: a start command is accepted from every resting state, with
`ec` cleared, and refused while busy. -/
def Obligations.StartCommands : Prop :=
  ∀ s : State,
    (s.st = .idle ∨ s.st = .done ∨ s.st = .error →
      exec .mix s = .next { s with op := .mix, ec := 0#4, st := .check, resp := some .ok } ∧
      exec .blockmix s = .next { s with op := .blockmix, ec := 0#4, st := .check, resp := some .ok } ∧
      exec .romix s = .next { s with op := .romix, ec := 0#4, st := .check, resp := some .ok }) ∧
    (¬(s.st = .idle ∨ s.st = .done ∨ s.st = .error) →
      exec .mix s = .next { s with resp := some .err } ∧ exec .blockmix s = .next { s with resp := some .err } ∧
      exec .romix s = .next { s with resp := some .err })

/-- R231: `ABORT` is accepted in every state; of a unit at rest it clears the status only; of a busy one it keeps the
configuration. What a busy `ABORT` leaves in the data registers is a free value, of which nothing is said. -/
def Obligations.AbortReturnsToIdle : Prop :=
  decode (.ht49 0x1000000000004#49) = .ok .abort ∧
  ∀ s : State,
    (∃ t : State, exec .abort s = .next t ∧ statusWord t = 0x00000000#32) ∧
    (busy s = false → exec .abort s = .next { s with op := .none, ec := 0#4, st := .idle, resp := some .ok }) ∧
    (busy s = true → ∃ t : State, exec .abort s = .next t ∧ t.op = .none ∧ t.ec = 0#4 ∧ t.st = .idle ∧
      t.resp = some .ok ∧ t.cfgN = s.cfgN ∧ t.cfgR = s.cfgR ∧ t.cap = s.cap ∧ t.inputs = s.inputs)

/-- R75: while busy only a read of `STATUS`, a read of `CMD` and `ABORT` get `OK`; everything else is refused. -/
def Obligations.BusyRefusals : Prop :=
  ∀ s : State, busy s = true →
    (∀ a : BitVec 16, a.toNat ≠ 0x0000 → a.toNat ≠ 0x0004 → exec (.hrd a) s = .next { s with resp := some .err }) ∧
    (∀ (a : BitVec 16) (v : Word), ¬(a.toNat = 0x0000 ∧ v.toNat = 4) →
      exec (.hwr a v) s = .next { s with resp := some .err }) ∧
    exec (.hrd 0x0000#16) s = .next { s with resp := some (.data 0#32) } ∧
    exec (.hrd 0x0004#16) s = .next { s with resp := some (.data (statusWord s)) } ∧
    (∃ t : State, exec (.hwr 0x0000#16 4#32) s = .next t ∧ t.resp = some .ok)

/-- R278: the complete list of refused transactions, and that a refusal changes nothing. -/
def Obligations.RefusalsComplete : Prop :=
  ∀ (a : BitVec 16) (v : Word) (s t : State),
    (exec (.hrd a) s = .next t →
      (t.resp = some .err ↔ a.toNat % 4 ≠ 0 ∨
        ¬(a.toNat < 0x0010 ∨ (0x1000 ≤ a.toNat ∧ a.toNat < 0x1000 + 128 * s.cap.rMax)) ∨
        (busy s = true ∧ a.toNat ≠ 0x0000 ∧ a.toNat ≠ 0x0004)) ∧
      (t.resp = some .err → t = { s with resp := some .err })) ∧
    (exec (.hwr a v) s = .next t →
      (t.resp = some .err ↔ a.toNat % 4 ≠ 0 ∨
        ¬(a.toNat < 0x0010 ∨ (0x1000 ≤ a.toNat ∧ a.toNat < 0x1000 + 128 * s.cap.rMax)) ∨
        a.toNat = 0x0004 ∨ (a.toNat = 0x0000 ∧ ¬(1 ≤ v.toNat ∧ v.toNat ≤ 4)) ∨
        (busy s = true ∧ ((a.toNat = 0x0000 ∧ 1 ≤ v.toNat ∧ v.toNat ≤ 3) ∨ 0x0008 ≤ a.toNat))) ∧
      (t.resp = some .err → t = { s with resp := some .err })) ∧
    (∀ rest, s.inputs = .otherWidth :: rest → step s = .next { s with inputs := rest, resp := some .err })

/-- R34: every bit of `STATUS`; it is readable in every state and never written. -/
def Obligations.StatusBits : Prop :=
  ∀ s : State,
    ((statusWord s).getLsbD 0 = true ↔ ¬(s.st = .idle ∨ s.st = .done ∨ s.st = .error)) ∧
    ((statusWord s).getLsbD 1 = true ↔ s.st = .done) ∧ ((statusWord s).getLsbD 2 = true ↔ s.st = .error) ∧
    (statusWord s).getLsbD 3 = false ∧ (statusWord s).extractLsb' 4 4 = s.ec ∧
    (statusWord s).extractLsb' 8 24 = 0#24 ∧
    ((statusWord s).extractLsb' 0 3 = 0#3 ↔ s.st = .idle) ∧
    (statusWord s).extractLsb' 0 3 ∈ [0#3, 1#3, 2#3, 4#3] ∧
    exec (.hrd 0x0004#16) s = .next { s with resp := some (.data (statusWord s)) } ∧
    (∀ v : Word, exec (.hwr 0x0004#16 v) s = .next { s with resp := some .err })

/-- 93 U14 and 95 section 6.2: in a state that keeps the invariant `STATUS` is one of five values, and `ec` is not 0
exactly in `ERROR` (R35). -/
def Obligations.StatusHasFiveValues : Prop :=
  ∀ s : State, Inv s →
    (s.st = .idle → statusWord s = 0x00000000#32) ∧ (busy s = true → statusWord s = 0x00000001#32) ∧
    (s.st = .done → statusWord s = 0x00000002#32) ∧
    (s.st = .error → statusWord s = 0x00000014#32 ∨ statusWord s = 0x00000024#32) ∧
    (s.ec ≠ 0#4 ↔ s.st = .error)

/-! ## Steps -/

/-- R110: the sixteen codes of the state register; in a resting state the sequencer takes no step, which
the model shows as a step that changes nothing (log entry 16). -/
def Obligations.StateCodes : Prop :=
  ([0x0#4, 0x1#4, 0x2#4, 0x3#4, 0x4#4, 0x5#4, 0x6#4, 0x7#4, 0x8#4, 0x9#4, 0xA#4, 0xB#4, 0xC#4, 0xD#4, 0xE#4, 0xF#4].map
      fun c => (decode (.st4 c)).toOption) =
    [some .idle, some .sqCheck, some .mxIn, some .mxOut, some .bmInit, some .bmXor, some .scLoad, some .scArx,
     some .scFfwd, some .bmStore, some .bmCommit, some .rmFill, some .rmIdx, some .rmXorv, some .done, some .error] ∧
  (∀ c : BitVec 4, stCode (stOfCode c) = c) ∧
  ∀ s : State, exec .idle s = .next s ∧ exec .done s = .next s ∧ exec .error s = .next s ∧
    (s.inputs = [] → s.st = .idle ∨ s.st = .done ∨ s.st = .error → step s = .next s)

/-- R110, R111: the code in `st`, decoded, is what the sequencer performs when it moves next. Which
agent moves next is read from `inputs` (log entry 1). -/
def Obligations.StepRunsTheSequencer : Prop :=
  ∀ (s : State) (i : Instr), decode (.st4 (stCode s.st)) = .ok i →
    (s.inputs = [] → step s = exec i s) ∧
    (∀ rest, s.inputs = .wait :: rest → step s = exec i { s with inputs := rest })

/-- R222: a transaction that moves next is one step: its record, decoded, is executed (log entry 1); a read record with
data is refused (log entry 11). -/
def Obligations.StepRunsTheTransaction : Prop :=
  ∀ (s : State) (w : BitVec 49) (rest : List Input), s.inputs = .txn w :: rest →
    (∀ i : Instr, decode (.ht49 w) = .ok i → step s = exec i { s with inputs := rest }) ∧
    (w.getLsbD 48 = false → w.extractLsb' 0 32 ≠ 0#32 → step s = .next { s with inputs := rest, resp := some .err })

/-- R72, R73: a transaction at an offset that is no multiple of 4, of another width, or at an unmapped offset is refused
and changes no state of the unit. -/
def Obligations.WidthAlignmentAndMap : Prop :=
  (∀ (s : State) (rest : List Input), s.inputs = .otherWidth :: rest →
    step s = .next { s with inputs := rest, resp := some .err }) ∧
  ∀ (s : State) (a : BitVec 16) (v : Word),
    a.toNat % 4 ≠ 0 ∨ ¬(a.toNat < 0x0010 ∨ (0x1000 ≤ a.toNat ∧ a.toNat < 0x1000 + 128 * s.cap.rMax)) →
    exec (.hrd a) s = .next { s with resp := some .err } ∧ exec (.hwr a v) s = .next { s with resp := some .err }

/-- R74: every transaction gets exactly one of `OK` and `ERR`, with data for a read that gets `OK`; an `ERR` changes no
state. -/
def Obligations.EveryTransactionIsAnswered : Prop :=
  ∀ (s : State) (w : BitVec 49) (rest : List Input), s.inputs = .txn w :: rest →
    ∃ (t : State) (r : Response), step s = .next t ∧ t.resp = some r ∧
      (w.getLsbD 48 = false → r = .err ∨ ∃ v : Word, r = .data v) ∧ (w.getLsbD 48 = true → r = .err ∨ r = .ok) ∧
      (r = .err → t = { s with inputs := rest, resp := some .err })

/-- R39, R310: what the spec gives after reset, at `State.reset` and after the reset input in any state. -/
def Obligations.ResetValues : Prop :=
  (State.reset.st = .idle ∧ State.reset.op = .none ∧ State.reset.ec = 0#4 ∧ State.reset.cfgN = 0#32 ∧
    State.reset.cfgR = 0#32 ∧ statusWord State.reset = 0x00000000#32 ∧
    step State.reset = .next State.reset ∧
    ∀ op : Op, op = .blockmix ∨ op = .romix →
      exec .sqCheck { State.reset with op := op, st := .check } =
        .next { State.reset with op := op, ec := 1#4, st := .error }) ∧
  ∀ (s : State) (rest : List Input), s.inputs = .reset :: rest →
    ∃ t : State, step s = .next t ∧ t.st = .idle ∧ t.op = .none ∧ t.ec = 0#4 ∧ t.cfgN = 0#32 ∧ t.cfgR = 0#32 ∧
      statusWord t = 0x00000000#32 ∧ t.cap = s.cap ∧ t.inputs = rest ∧ (rest = [] → step t = .next t)

/-- R112: the transition table, a row a clause; the columns are the condition, the counter writes and the state reached,
every control register not named being kept. -/
def Obligations.TransitionTable : Prop :=
  (∀ s : State, busy s = false → ∀ row ∈ [(Instr.mix, Op.mix), (.blockmix, .blockmix), (.romix, .romix)],
    ∃ t : State, exec row.1 s = .next t ∧ ControlAs t { s with op := row.2, ec := 0#4, st := .check }) ∧
  (∀ s : State, ∃ t : State, exec .abort s = .next t ∧ t.op = .none ∧ t.ec = 0#4 ∧ t.st = .idle) ∧
  ∀ s t : State, s.inputs = [] → step s = .next t →
    (s.st = .check →
      (∀ e, paramError s.op s.cfgN s.cfgR s.cap = some e → ControlAs t { s with ec := e.code, st := .error }) ∧
      (paramError s.op s.cfgN s.cfgR s.cap = none →
        (s.op = .mix → ControlAs t { s with st := .mxIn }) ∧ (s.op = .blockmix → ControlAs t { s with st := .bmInit }) ∧
        (s.op = .romix → ControlAs t { s with i := 0#32, ph := .fill, st := .rmFill }))) ∧
    (s.st = .mxIn → ControlAs t { s with st := .scLoad }) ∧
    (s.st = .scLoad → ControlAs t { s with d := 0#2, s := 0#5, st := .scArx }) ∧
    (s.st = .scArx →
      (s.s.toNat < 31 → ControlAs t { s with s := s.s + 1#5 }) ∧
      (s.s.toNat = 31 → s.d.toNat < 3 → ControlAs t { s with d := s.d + 1#2, s := 0#5 }) ∧
      (s.s.toNat = 31 → s.d.toNat = 3 → ControlAs t { s with st := .scFfwd })) ∧
    (s.st = .scFfwd →
      (s.op = .mix → ControlAs t { s with st := .mxOut }) ∧
      (s.op = .blockmix ∨ s.op = .romix → ControlAs t { s with st := .bmStore })) ∧
    (s.st = .mxOut → ControlAs t { s with st := .done }) ∧
    (s.st = .bmInit → ControlAs t { s with k := 0#10, st := .bmXor }) ∧
    (s.st = .bmXor → ControlAs t { s with st := .scLoad }) ∧
    (s.st = .bmStore →
      (s.k.toNat + 1 < 2 * s.cfgR.toNat → ControlAs t { s with k := s.k + 1#10, st := .bmXor }) ∧
      (s.k.toNat + 1 = 2 * s.cfgR.toNat → ControlAs t { s with st := .bmCommit })) ∧
    (s.st = .bmCommit →
      (s.op = .blockmix → ControlAs t { s with st := .done }) ∧
      (s.op = .romix → s.i.toNat + 1 < s.cfgN.toNat → s.ph = .fill →
        ControlAs t { s with i := s.i + 1#32, st := .rmFill }) ∧
      (s.op = .romix → s.i.toNat + 1 < s.cfgN.toNat → s.ph = .mix →
        ControlAs t { s with i := s.i + 1#32, st := .rmIdx }) ∧
      (s.op = .romix → s.i.toNat + 1 = s.cfgN.toNat → s.ph = .fill →
        ControlAs t { s with ph := .mix, i := 0#32, st := .rmIdx }) ∧
      (s.op = .romix → s.i.toNat + 1 = s.cfgN.toNat → s.ph = .mix → ControlAs t { s with st := .done })) ∧
    (s.st = .rmFill → ControlAs t { s with st := .bmInit }) ∧
    (s.st = .rmIdx → ControlAs t { s with st := .rmXorv }) ∧
    (s.st = .rmXorv → ControlAs t { s with st := .bmInit })

/-! ## The whole machine -/

/-- The invariant holds at reset. -/
def Obligations.InvariantAtReset : Prop := Inv State.reset

/-- The invariant of R112 (with the bounds of R69, the canonical form of the stores, R35) is kept by every step. -/
def Obligations.InvariantKept : Prop := ∀ s t : State, Inv s → step s = .next t → Inv t

/-- R289, R321: a state that keeps the invariant always has a next state: no access out of range, no stuck state. -/
def Obligations.InvariantNeverStops : Prop := ∀ s : State, Inv s → ∃ t : State, step s = .next t

/-- R38: no agent writes the capacities. -/
def Obligations.CapacitiesAreFixed : Prop :=
  (∀ (i : Instr) (s t : State), exec i s = .next t → t.cap = s.cap) ∧
  ∀ s t : State, step s = .next t → t.cap = s.cap

/-- 70_reset R322: what a ROMIX leaves in the group depends on `CFG_N`, `CFG_R` and the input group only: not on `x`, `T`,
`Y`, `V`, a counter, the operation before, or `G` above the group. -/
def Obligations.RomixForgetsThePast : Prop :=
  ∀ p q : State, busy p = false → busy q = false → p.inputs = [] → q.inputs = [] →
    p.cap = q.cap → p.cap.rMax ≤ 480 → p.cfgN = q.cfgN → p.cfgR = q.cfgR → validN p.cfgN = true →
    1 ≤ p.cfgR.toNat → p.cfgR.toNat ≤ p.cap.rMax → 32 * p.cfgR.toNat * p.cfgN.toNat ≤ p.cap.vWords →
    (∀ w : Nat, w < 32 * p.cfgR.toNat → p.g.read w = q.g.read w) →
    ∃ p1 q1 p2 q2 : State, exec .romix p = .next p1 ∧ exec .romix q = .next q1 ∧
      Host.Core.run Sys2Proof.core (1 + p.cfgN.toNat * (7 + 528 * p.cfgR.toNat)) p1 = .next p2 ∧
      Host.Core.run Sys2Proof.core (1 + p.cfgN.toNat * (7 + 528 * p.cfgR.toNat)) q1 = .next q2 ∧
      p2.st = .done ∧ q2.st = .done ∧ ∀ w : Nat, w < 32 * p.cfgR.toNat → p2.g.read w = q2.g.read w

/-- 70_reset R315: `CFG_N` and `CFG_R` change only by a host write or the reset input. -/
def Obligations.ConfigurationSurvives : Prop :=
  ∀ s t : State, step s = .next t →
    (t.cfgN ≠ s.cfgN → (∃ rest, s.inputs = .reset :: rest) ∨
      ∃ rest v, s.inputs = .txn (packRecord true 0x0008#16 v) :: rest ∧ t.cfgN = v) ∧
    (t.cfgR ≠ s.cfgR → (∃ rest, s.inputs = .reset :: rest) ∨
      ∃ rest v, s.inputs = .txn (packRecord true 0x000C#16 v) :: rest ∧ t.cfgR = v)

/-- R20, the "written by" column (with R231: an `ABORT` of a busy unit is left out here): whole-machine frames. -/
def Obligations.WritersOfEachRegister : Prop :=
  ∀ (i : Instr) (s t : State), exec i s = .next t → ¬(busy s = true ∧ (i = .abort ∨ i = .hwr 0x0000#16 4#32)) →
    (t.x ≠ s.x → i ∈ [Instr.scLoad, .scArx] ++ schedRows.map SchedRow.form) ∧
    (t.t ≠ s.t → i ∈ [Instr.mxIn, .bmInit, .bmXor, .scFfwd]) ∧
    (t.g ≠ s.g → i ∈ [Instr.mxOut, .bmCommit, .rmXorv] ∨ ∃ a v, i = .hwr a v) ∧
    (t.y ≠ s.y → i = .bmStore) ∧
    (t.v ≠ s.v → i = .rmFill) ∧
    (t.op ≠ s.op → i ∈ [Instr.mix, .blockmix, .romix, .abort] ∨ ∃ v, i = .hwr 0x0000#16 v) ∧
    (t.ph ≠ s.ph → i ∈ [Instr.sqCheck, .bmCommit]) ∧
    (t.i ≠ s.i → i ∈ [Instr.sqCheck, .bmCommit]) ∧
    (t.k ≠ s.k → i ∈ [Instr.bmInit, .bmStore]) ∧
    (t.d ≠ s.d → i ∈ [Instr.scLoad, .scArx] ++ schedRows.map SchedRow.form) ∧
    (t.s ≠ s.s → i ∈ [Instr.scLoad, .scArx] ++ schedRows.map SchedRow.form) ∧
    (t.j ≠ s.j → i = .rmIdx) ∧
    (t.cfgN ≠ s.cfgN → ∃ v, i = .hwr 0x0008#16 v) ∧
    (t.cfgR ≠ s.cfgR → ∃ v, i = .hwr 0x000C#16 v) ∧
    (t.ec ≠ s.ec → i ∈ [Instr.sqCheck, .mix, .blockmix, .romix, .abort] ∨ ∃ v, i = .hwr 0x0000#16 v)

/-- R41: what the sequencer does next never depends on the data in `x`, `T`, `G`, `Y`, `V` (nor on `j`): two states that
agree on the control registers and the configuration step to two that agree. -/
def Obligations.ControlIgnoresData : Prop :=
  ∀ p q p' q' : State, SameControl p q → p.inputs = [] → step p = .next p' → step q = .next q' → SameControl p' q'

/-- R81, R75: while the unit is busy, no step of the host but an `ABORT` or the reset input changes anything of the unit:
such a step keeps every field but the answer and the list of inputs (log entries 1 and 10), so the unit stays busy. -/
def Obligations.HostCannotDisturbABusyUnit : Prop :=
  ∀ (s t : State) (e : Input) (rest : List Input), busy s = true → s.inputs = e :: rest → e ≠ .wait → e ≠ .reset →
    (∀ w : BitVec 49, e = .txn w → decode (.ht49 w) ≠ .ok .abort) →
    step s = .next t → t = { s with inputs := rest, resp := t.resp }
end

