-- ==== Sys2Proof/Laws/Decode.lean ====
section
/-! SUPPORT. The fields of a record: packing and unpacking are inverse (30_encoding R102); the schedule words are distinct
(R116). -/

namespace Sys2Proof

theorem packRecord_getLsbD (k : Bool) (a : BitVec 16) (d : Word) (n : Nat) :
    (packRecord k a d).getLsbD n =
      if n < 32 then d.getLsbD n else if n < 48 then a.getLsbD (n - 32) else decide (n = 48) && k := by
  have h : packRecord k a d = ((BitVec.ofBool k ++ a) ++ d : BitVec (1 + 16 + 32)) := rfl
  rw [h, BitVec.getLsbD_append, BitVec.getLsbD_append]
  by_cases h1 : n < 32
  · simp [h1]
  · by_cases h2 : n < 48
    · simp [h1, h2, show n - 32 < 16 by omega]
    · simp only [h1, h2, show ¬ n - 32 < 16 by omega, ↓reduceIte, BitVec.getLsbD_ofBool]
      congr 2
      simp only [eq_iff_iff]; omega

@[simp] theorem recordKind_pack (k : Bool) (a : BitVec 16) (d : Word) : recordKind (packRecord k a d) = k := by
  rw [recordKind, packRecord_getLsbD]; simp

@[simp] theorem recordOffset_pack (k : Bool) (a : BitVec 16) (d : Word) : recordOffset (packRecord k a d) = a := by
  apply BitVec.eq_of_getLsbD_eq
  intro i hi
  simp only [recordOffset, BitVec.getLsbD_extractLsb', packRecord_getLsbD, hi, decide_true, Bool.true_and]
  rw [if_neg (by omega), if_pos (by omega)]
  congr 1; omega

@[simp] theorem recordData_pack (k : Bool) (a : BitVec 16) (d : Word) : recordData (packRecord k a d) = d := by
  apply BitVec.eq_of_getLsbD_eq
  intro i hi
  simp [recordData, packRecord_getLsbD, hi]

/-- Every record is packed from its three fields. -/
theorem packRecord_fields (w : BitVec 49) : packRecord (recordKind w) (recordOffset w) (recordData w) = w := by
  apply BitVec.eq_of_getLsbD_eq
  intro i hi
  rw [packRecord_getLsbD]
  split
  · next h => simp [recordData, h]
  · split
    · next h1 h2 =>
      simp only [recordOffset, BitVec.getLsbD_extractLsb', show i - 32 < 16 by omega, decide_true, Bool.true_and]
      congr 1; omega
    · have : i = 48 := by omega
      subst this; simp [recordKind]

/-- The schedule words differ from one another. -/
theorem schedWords_nodup : schedWords.Nodup := by decide

/-- What `findForm` finds stands in the list. -/
theorem findForm_mem {w : BitVec 17} {l : List (BitVec 17 × Instr)} {i : Instr} (h : findForm w l = .ok i) :
    (w, i) ∈ l := by
  induction l with
  | nil => simp [findForm] at h
  | cons hd tl ih =>
    obtain ⟨u, j⟩ := hd
    simp only [findForm] at h
    split at h
    · next he => subst he; cases h; simp
    · exact List.mem_cons_of_mem _ (ih h)

end Sys2Proof
end

