-- ==== Sys2Proof/Laws/State.lean ====
section
/-! SUPPORT. One lemma per field for each named update of the state: an update changes the fields it names and keeps the
others. -/

namespace Sys2Proof.Machine

/-! `respond`: the answer only. -/

@[simp] theorem respond_x (a : Response) (m : State) : (respond a m).x = m.x := rfl

@[simp] theorem respond_t (a : Response) (m : State) : (respond a m).t = m.t := rfl

@[simp] theorem respond_g (a : Response) (m : State) : (respond a m).g = m.g := rfl

@[simp] theorem respond_y (a : Response) (m : State) : (respond a m).y = m.y := rfl

@[simp] theorem respond_v (a : Response) (m : State) : (respond a m).v = m.v := rfl

@[simp] theorem respond_st (a : Response) (m : State) : (respond a m).st = m.st := rfl

@[simp] theorem respond_op (a : Response) (m : State) : (respond a m).op = m.op := rfl

@[simp] theorem respond_ph (a : Response) (m : State) : (respond a m).ph = m.ph := rfl

@[simp] theorem respond_i (a : Response) (m : State) : (respond a m).i = m.i := rfl

@[simp] theorem respond_k (a : Response) (m : State) : (respond a m).k = m.k := rfl

@[simp] theorem respond_d (a : Response) (m : State) : (respond a m).d = m.d := rfl

@[simp] theorem respond_s (a : Response) (m : State) : (respond a m).s = m.s := rfl

@[simp] theorem respond_j (a : Response) (m : State) : (respond a m).j = m.j := rfl

@[simp] theorem respond_cfgN (a : Response) (m : State) : (respond a m).cfgN = m.cfgN := rfl

@[simp] theorem respond_cfgR (a : Response) (m : State) : (respond a m).cfgR = m.cfgR := rfl

@[simp] theorem respond_ec (a : Response) (m : State) : (respond a m).ec = m.ec := rfl

@[simp] theorem respond_cap (a : Response) (m : State) : (respond a m).cap = m.cap := rfl

@[simp] theorem respond_inputs (a : Response) (m : State) : (respond a m).inputs = m.inputs := rfl

@[simp] theorem respond_resp (a : Response) (m : State) : (respond a m).resp = some a := rfl

@[simp] theorem respond_free (a : Response) (m : State) : (respond a m).free = m.free := rfl

/-! `raiseError`: `ec` and `st` (R274). -/

@[simp] theorem raiseError_x (e : ErrCode) (m : State) : (raiseError e m).x = m.x := rfl

@[simp] theorem raiseError_t (e : ErrCode) (m : State) : (raiseError e m).t = m.t := rfl

@[simp] theorem raiseError_g (e : ErrCode) (m : State) : (raiseError e m).g = m.g := rfl

@[simp] theorem raiseError_y (e : ErrCode) (m : State) : (raiseError e m).y = m.y := rfl

@[simp] theorem raiseError_v (e : ErrCode) (m : State) : (raiseError e m).v = m.v := rfl

@[simp] theorem raiseError_st (e : ErrCode) (m : State) : (raiseError e m).st = .error := rfl

@[simp] theorem raiseError_op (e : ErrCode) (m : State) : (raiseError e m).op = m.op := rfl

@[simp] theorem raiseError_ph (e : ErrCode) (m : State) : (raiseError e m).ph = m.ph := rfl

@[simp] theorem raiseError_i (e : ErrCode) (m : State) : (raiseError e m).i = m.i := rfl

@[simp] theorem raiseError_k (e : ErrCode) (m : State) : (raiseError e m).k = m.k := rfl

@[simp] theorem raiseError_d (e : ErrCode) (m : State) : (raiseError e m).d = m.d := rfl

@[simp] theorem raiseError_s (e : ErrCode) (m : State) : (raiseError e m).s = m.s := rfl

@[simp] theorem raiseError_j (e : ErrCode) (m : State) : (raiseError e m).j = m.j := rfl

@[simp] theorem raiseError_cfgN (e : ErrCode) (m : State) : (raiseError e m).cfgN = m.cfgN := rfl

@[simp] theorem raiseError_cfgR (e : ErrCode) (m : State) : (raiseError e m).cfgR = m.cfgR := rfl

@[simp] theorem raiseError_ec (e : ErrCode) (m : State) : (raiseError e m).ec = e.code := rfl

@[simp] theorem raiseError_cap (e : ErrCode) (m : State) : (raiseError e m).cap = m.cap := rfl

@[simp] theorem raiseError_inputs (e : ErrCode) (m : State) : (raiseError e m).inputs = m.inputs := rfl

@[simp] theorem raiseError_resp (e : ErrCode) (m : State) : (raiseError e m).resp = m.resp := rfl

@[simp] theorem raiseError_free (e : ErrCode) (m : State) : (raiseError e m).free = m.free := rfl

/-! `forget`: the control and configuration registers stay (R231). -/

@[simp] theorem forget_st (m : State) : (forget m).st = m.st := rfl

@[simp] theorem forget_op (m : State) : (forget m).op = m.op := rfl

@[simp] theorem forget_cfgN (m : State) : (forget m).cfgN = m.cfgN := rfl

@[simp] theorem forget_cfgR (m : State) : (forget m).cfgR = m.cfgR := rfl

@[simp] theorem forget_ec (m : State) : (forget m).ec = m.ec := rfl

@[simp] theorem forget_cap (m : State) : (forget m).cap = m.cap := rfl

@[simp] theorem forget_inputs (m : State) : (forget m).inputs = m.inputs := rfl

@[simp] theorem forget_resp (m : State) : (forget m).resp = m.resp := rfl

/-! `resetUnit` (R310). -/

@[simp] theorem resetUnit_st (m : State) : (resetUnit m).st = .idle := rfl

@[simp] theorem resetUnit_op (m : State) : (resetUnit m).op = .none := rfl

@[simp] theorem resetUnit_cfgN (m : State) : (resetUnit m).cfgN = 0#32 := rfl

@[simp] theorem resetUnit_cfgR (m : State) : (resetUnit m).cfgR = 0#32 := rfl

@[simp] theorem resetUnit_ec (m : State) : (resetUnit m).ec = 0#4 := rfl

@[simp] theorem resetUnit_cap (m : State) : (resetUnit m).cap = m.cap := rfl

@[simp] theorem resetUnit_inputs (m : State) : (resetUnit m).inputs = m.inputs := rfl

@[simp] theorem resetUnit_resp (m : State) : (resetUnit m).resp = m.resp := rfl

/-! `commitGroup`: `G` only (R175). -/

@[simp] theorem commitGroup_x (m : State) : (commitGroup m).x = m.x := rfl

@[simp] theorem commitGroup_t (m : State) : (commitGroup m).t = m.t := rfl

@[simp] theorem commitGroup_y (m : State) : (commitGroup m).y = m.y := rfl

@[simp] theorem commitGroup_v (m : State) : (commitGroup m).v = m.v := rfl

@[simp] theorem commitGroup_st (m : State) : (commitGroup m).st = m.st := rfl

@[simp] theorem commitGroup_op (m : State) : (commitGroup m).op = m.op := rfl

@[simp] theorem commitGroup_ph (m : State) : (commitGroup m).ph = m.ph := rfl

@[simp] theorem commitGroup_i (m : State) : (commitGroup m).i = m.i := rfl

@[simp] theorem commitGroup_k (m : State) : (commitGroup m).k = m.k := rfl

@[simp] theorem commitGroup_d (m : State) : (commitGroup m).d = m.d := rfl

@[simp] theorem commitGroup_s (m : State) : (commitGroup m).s = m.s := rfl

@[simp] theorem commitGroup_j (m : State) : (commitGroup m).j = m.j := rfl

@[simp] theorem commitGroup_cfgN (m : State) : (commitGroup m).cfgN = m.cfgN := rfl

@[simp] theorem commitGroup_cfgR (m : State) : (commitGroup m).cfgR = m.cfgR := rfl

@[simp] theorem commitGroup_ec (m : State) : (commitGroup m).ec = m.ec := rfl

@[simp] theorem commitGroup_cap (m : State) : (commitGroup m).cap = m.cap := rfl

@[simp] theorem commitGroup_inputs (m : State) : (commitGroup m).inputs = m.inputs := rfl

@[simp] theorem commitGroup_resp (m : State) : (commitGroup m).resp = m.resp := rfl

@[simp] theorem commitGroup_free (m : State) : (commitGroup m).free = m.free := rfl

/-! The stores after forgetting are in canonical form, with nothing listed. -/

@[simp] theorem forget_g_cells (m : State) : (forget m).g.cells = [] := rfl

@[simp] theorem forget_y_cells (m : State) : (forget m).y.cells = [] := rfl

@[simp] theorem forget_v_cells (m : State) : (forget m).v.cells = [] := rfl

end Sys2Proof.Machine
end

