-- ==== Sys2Proof/Laws/Store.lean ====
section
/-! SUPPORT. The laws of the stores: a read after a write, ranges of Words, and that every operation keeps the canonical
form and the bound on addresses. -/

namespace Sys2Proof.Machine

theorem findCell_putCell (c : List (Nat × Word)) (a : Nat) (v : Word) (b : Nat) :
    findCell (putCell c a v) b = if b = a then some v else findCell c b := by
  induction c with
  | nil => simp [putCell, findCell]
  | cons hd tl ih =>
    obtain ⟨e, w⟩ := hd
    simp only [putCell]
    split
    · simp [findCell]
    · split
      · next h => subst h; simp only [findCell]; split <;> simp_all
      · next h =>
        simp only [findCell, ih]
        split
        · next he => subst he; simp [Ne.symm h]
        · rfl

theorem findCell_dropCell (c : List (Nat × Word)) (a b : Nat) :
    findCell (dropCell c a) b = if b = a then none else findCell c b := by
  induction c with
  | nil => simp [dropCell, findCell]
  | cons hd tl ih =>
    obtain ⟨e, w⟩ := hd
    simp only [dropCell]
    split
    · next h =>
      subst h
      rw [ih]
      simp only [findCell]
      split <;> simp_all
    · next h =>
      simp only [findCell, ih]
      split
      · next he => subst he; simp [Ne.symm h]
      · rfl

@[simp] theorem write_epoch (m : Store) (a : Nat) (v : Word) : (m.write a v).epoch = m.epoch := by
  unfold Store.write; split <;> rfl

@[simp] theorem writeWords_epoch (ws : List Word) (m : Store) (a : Nat) :
    (m.writeWords a ws).epoch = m.epoch := by
  induction ws generalizing m a with
  | nil => rfl
  | cons v rest ih => simp [Store.writeWords, ih]

/-- A read after a write: the value written at that place, the old value at every other. -/
theorem read_write (m : Store) (a : Nat) (v : Word) (b : Nat) :
    (m.write a v).read b = if b = a then v else m.read b := by
  unfold Store.write
  split
  · next h =>
    simp only [Store.read, findCell_dropCell]
    split
    · simp [Store.unlisted, h.1, h.2]
    · rfl
  · simp only [Store.read, findCell_putCell]
    split <;> rfl

@[simp] theorem read_write_same (m : Store) (a : Nat) (v : Word) : (m.write a v).read a = v := by
  simp [read_write]

theorem read_write_other (m : Store) {a b : Nat} (v : Word) (h : b ≠ a) : (m.write a v).read b = m.read b := by
  simp [read_write, h]

@[simp] theorem writeWords_nil (m : Store) (a : Nat) : m.writeWords a [] = m := rfl

@[simp] theorem writeWords_cons (m : Store) (a : Nat) (v : Word) (ws : List Word) :
    m.writeWords a (v :: ws) = (m.write a v).writeWords (a + 1) ws := rfl

/-- Outside the range written, a Word reads as before. -/
theorem read_writeWords_outside (ws : List Word) (m : Store) (a b : Nat) (h : b < a ∨ a + ws.length ≤ b) :
    (m.writeWords a ws).read b = m.read b := by
  induction ws generalizing m a with
  | nil => rfl
  | cons v rest ih =>
    simp only [List.length_cons] at h
    rw [writeWords_cons, ih _ _ (by omega), read_write_other _ _ (by omega)]

/-- Inside the range written, a Word reads as written. -/
theorem read_writeWords_inside (ws : List Word) (m : Store) (a t : Nat) (h : t < ws.length) :
    (m.writeWords a ws).read (a + t) = ws[t] := by
  induction ws generalizing m a t with
  | nil => simp at h
  | cons v rest ih =>
    cases t with
    | zero => rw [writeWords_cons, read_writeWords_outside _ _ _ _ (by omega)]; simp
    | succ t =>
      have := ih (m.write a v) (a + 1) t (by simpa using h)
      simpa [Nat.add_assoc, Nat.add_comm 1 t] using this

/-- Everything a range write can do to a read. -/
theorem read_writeWords (ws : List Word) (m : Store) (a b : Nat) :
    (m.writeWords a ws).read b = if a ≤ b ∧ b < a + ws.length then ws.getD (b - a) 0#32 else m.read b := by
  split
  · next h =>
    have ht : b - a < ws.length := by omega
    have := read_writeWords_inside ws m a (b - a) ht
    rw [Nat.add_sub_cancel' h.1] at this
    rw [this, List.getD_eq_getElem _ _ ht]
  · exact read_writeWords_outside _ _ _ _ (by omega)

@[simp] theorem readWords_length (m : Store) (a n : Nat) : (m.readWords a n).length = n := by
  simp [Store.readWords]

@[simp] theorem readWords_getElem (m : Store) (a n t : Nat) (h : t < (m.readWords a n).length) :
    (m.readWords a n)[t] = m.read (a + t) := by
  simp [Store.readWords]

theorem readWords_getD (m : Store) (a n t : Nat) (h : t < n) : (m.readWords a n).getD t 0#32 = m.read (a + t) := by
  rw [List.getD_eq_getElem _ _ (by simpa using h), readWords_getElem]

/-- Two stores that read alike on a range give the same Words. -/
theorem readWords_congr (m m' : Store) (a a' n : Nat) (h : ∀ t, t < n → m.read (a + t) = m'.read (a' + t)) :
    m.readWords a n = m'.readWords a' n := by
  apply List.ext_getElem (by simp)
  intro t h1 h2
  simpa using h t (by simpa using h1)

/-! The canonical form. -/

theorem rising_tail {c : Nat × Word} {l : List (Nat × Word)} (h : rising (c :: l) = true) : rising l = true := by
  cases l with
  | nil => rfl
  | cons d tl => simp [rising] at h; exact h.2

theorem rising_cons {a : Nat} {w : Word} {l : List (Nat × Word)} :
    rising ((a, w) :: l) = true ↔ (∀ c ∈ l.head?, a < c.1) ∧ rising l = true := by
  cases l with
  | nil => simp [rising]
  | cons d tl => obtain ⟨b, u⟩ := d; simp [rising]

theorem putCell_head (l : List (Nat × Word)) (a : Nat) (v : Word) (lo : Nat) (hl : ∀ c ∈ l.head?, lo < c.1)
    (ha : lo < a) : ∀ c ∈ (putCell l a v).head?, lo < c.1 := by
  cases l with
  | nil => simpa [putCell] using ha
  | cons hd tl =>
    obtain ⟨b, u⟩ := hd
    simp only [putCell]
    split
    · simpa using ha
    · split
      · simpa using ha
      · simpa using hl

theorem rising_putCell (l : List (Nat × Word)) (a : Nat) (v : Word) (h : rising l = true) :
    rising (putCell l a v) = true := by
  induction l with
  | nil => rfl
  | cons hd tl ih =>
    obtain ⟨b, u⟩ := hd
    rw [rising_cons] at h
    simp only [putCell]
    split
    · next hlt => rw [rising_cons]; exact ⟨by simpa using hlt, rising_cons.2 h⟩
    · split
      · next he => subst he; exact rising_cons.2 h
      · exact rising_cons.2 ⟨putCell_head _ _ _ _ h.1 (by omega), ih h.2⟩

theorem dropCell_eq_self (l : List (Nat × Word)) (a lo : Nat) (h : rising l = true) (hl : ∀ c ∈ l.head?, lo < c.1)
    (ha : a ≤ lo) : dropCell l a = l := by
  induction l generalizing lo with
  | nil => rfl
  | cons hd tl ih =>
    obtain ⟨b, u⟩ := hd
    rw [rising_cons] at h
    have hb : lo < b := by simpa using hl
    simp only [dropCell]
    rw [if_neg (by omega), ih b h.2 h.1 (by omega)]

theorem rising_dropCell (l : List (Nat × Word)) (a : Nat) (h : rising l = true) : rising (dropCell l a) = true := by
  induction l with
  | nil => rfl
  | cons hd tl ih =>
    obtain ⟨b, u⟩ := hd
    have ht := rising_tail h
    have h' := rising_cons.1 h
    simp only [dropCell]
    split
    · exact ih ht
    · refine rising_cons.2 ⟨?_, ih ht⟩
      cases tl with
      | nil => simp [dropCell]
      | cons hd2 tl2 =>
        obtain ⟨c, w⟩ := hd2
        have hbc : b < c := by simpa using h'.1
        simp only [dropCell]
        split
        · next he =>
          subst he
          rw [rising_cons] at ht
          rw [dropCell_eq_self tl2 a a ht.2 ht.1 (Nat.le_refl a)]
          intro d hd
          have := ht.1 d hd
          omega
        · simpa using hbc

theorem mem_putCell {l : List (Nat × Word)} {a : Nat} {v : Word} {c : Nat × Word} (h : c ∈ putCell l a v) :
    c = (a, v) ∨ c ∈ l := by
  induction l with
  | nil => simpa [putCell] using h
  | cons hd tl ih =>
    obtain ⟨b, u⟩ := hd
    simp only [putCell] at h
    split at h
    · simpa using h
    · split at h
      · simp only [List.mem_cons] at h ⊢; tauto
      · simp only [List.mem_cons] at h ⊢; tauto

theorem mem_dropCell {l : List (Nat × Word)} {a : Nat} {c : Nat × Word} (h : c ∈ dropCell l a) : c ∈ l := by
  induction l with
  | nil => simp [dropCell] at h
  | cons hd tl ih =>
    obtain ⟨b, u⟩ := hd
    simp only [dropCell] at h
    split at h
    · exact List.mem_cons_of_mem _ (ih h)
    · simp only [List.mem_cons] at h ⊢; tauto

/-- A write keeps the canonical form. -/
theorem write_wf (m : Store) (a : Nat) (v : Word) (h : m.wf = true) : (m.write a v).wf = true := by
  simp only [Store.wf, Bool.and_eq_true, Bool.or_eq_true, bne_iff_ne, List.all_eq_true, ne_eq] at h ⊢
  refine ⟨?_, ?_⟩
  · unfold Store.write; split
    · exact rising_dropCell _ _ h.1
    · exact rising_putCell _ _ _ h.1
  · rw [write_epoch]
    rcases h.2 with h2 | h2
    · exact .inl h2
    · by_cases he : m.epoch = 0
      · right
        intro c hc
        unfold Store.write at hc
        split at hc
        · exact h2 c (mem_dropCell hc)
        · next hn =>
          rcases mem_putCell hc with rfl | hc
          · exact fun hv => hn ⟨he, hv⟩
          · exact h2 c hc
      · exact .inl he

/-- A write inside a bound keeps every listed address below it. -/
theorem write_below (m : Store) (a : Nat) (v : Word) (n : Nat) (ha : a < n) (h : m.below n = true) :
    (m.write a v).below n = true := by
  simp only [Store.below, List.all_eq_true, decide_eq_true_eq] at h ⊢
  intro c hc
  unfold Store.write at hc
  split at hc
  · exact h c (mem_dropCell hc)
  · rcases mem_putCell hc with rfl | hc
    · exact ha
    · exact h c hc

theorem writeWords_wf (ws : List Word) (m : Store) (a : Nat) (h : m.wf = true) : (m.writeWords a ws).wf = true := by
  induction ws generalizing m a with
  | nil => exact h
  | cons v rest ih => exact ih _ _ (write_wf _ _ _ h)

theorem writeWords_below (ws : List Word) (m : Store) (a n : Nat) (ha : a + ws.length ≤ n) (h : m.below n = true) :
    (m.writeWords a ws).below n = true := by
  induction ws generalizing m a with
  | nil => exact h
  | cons v rest ih =>
    simp only [List.length_cons] at ha
    exact ih _ _ (by omega) (write_below _ _ _ _ (by omega) h)

@[simp] theorem empty_wf (e : Nat) : (Store.mk e []).wf = true := by simp [Store.wf, rising]

@[simp] theorem empty_below (e n : Nat) : (Store.mk e []).below n = true := by simp [Store.below]

/-! Blocks. -/

@[simp] theorem blockOf_getElem (f : Fin 16 → Word) (w : Nat) (h : w < 16) : (blockOf f)[w] = f ⟨w, h⟩ := by
  have : ∀ u : Fin 16, (blockOf f)[u.val] = f u := by intro u; fin_cases u <;> rfl
  exact this ⟨w, h⟩

@[simp] theorem zipBlock_getElem (f : Word → Word → Word) (p q : Block) (w : Nat) (h : w < 16) :
    (zipBlock f p q)[w] = f p[w] q[w] := by
  simp [zipBlock]

@[simp] theorem readBlock_getElem (m : Store) (a w : Nat) (h : w < 16) : (m.readBlock a)[w] = m.read (a + w) := by
  simp [Store.readBlock]

end Sys2Proof.Machine
end

