-- ==== Sys2Proof/Laws/Ops.lean ====
section
/-! SUPPORT. One lemma per shared operation, saying all it can do. -/

namespace Sys2Proof.Machine

/-! The guards. -/

theorem withBuffer_next {m : State} {top : Nat} {n : Result} {t : State} (h : withBuffer m top n = .next t) :
    top ≤ bufferWords m ∧ n = .next t := by
  unfold withBuffer at h; split at h
  · exact ⟨‹_›, h⟩
  · cases h

theorem withTable_next {m : State} {top : Nat} {n : Result} {t : State} (h : withTable m top n = .next t) :
    top ≤ m.cap.vWords ∧ n = .next t := by
  unfold withTable at h; split at h
  · exact ⟨‹_›, h⟩
  · cases h

theorem withGroup_next {m : State} {n : Result} {t : State} (h : withGroup m n = .next t) :
    m.cfgR.toNat ≠ 0 ∧ n = .next t := by
  unfold withGroup at h; split at h
  · cases h
  · exact ⟨‹_›, h⟩

theorem withBuffer_of_le {m : State} {top : Nat} (n : Result) (h : top ≤ bufferWords m) : withBuffer m top n = n := by
  simp [withBuffer, h]

theorem withTable_of_le {m : State} {top : Nat} (n : Result) (h : top ≤ m.cap.vWords) : withTable m top n = n := by
  simp [withTable, h]

theorem withGroup_of_pos {m : State} (n : Result) (h : m.cfgR.toNat ≠ 0) : withGroup m n = n := by
  simp [withGroup, h]

/-! The host's operations: each either answers `ERR` and changes nothing, or does one of the effects listed. -/

theorem unlessBusy_cases (m a : State) :
    (busy m = true ∧ unlessBusy m a = respond .err m) ∨ (busy m = false ∧ unlessBusy m a = a) := by
  unfold unlessBusy; cases h : busy m <;> simp

theorem startCommand_cases (op : Op) (m : State) :
    (busy m = true ∧ startCommand op m = respond .err m) ∨
    (busy m = false ∧ startCommand op m = respond .ok { m with op := op, ec := 0#4, st := .check }) := by
  unfold startCommand; cases h : busy m <;> simp

theorem abortCommand_cases (m : State) :
    (busy m = true ∧ abortCommand m = respond .ok { forget m with op := .none, ec := 0#4, st := .idle }) ∨
    (busy m = false ∧ abortCommand m = respond .ok { m with op := .none, ec := 0#4, st := .idle }) := by
  unfold abortCommand; cases h : busy m <;> simp

theorem command_cases (v : Word) (m : State) :
    (v = 4#32 ∧ command v m = abortCommand m) ∨
    (v = 1#32 ∧ command v m = startCommand .mix m) ∨
    (v = 2#32 ∧ command v m = startCommand .blockmix m) ∨
    (v = 3#32 ∧ command v m = startCommand .romix m) ∨
    (v ≠ 1#32 ∧ v ≠ 2#32 ∧ v ≠ 3#32 ∧ v ≠ 4#32 ∧ command v m = respond .err m) := by
  unfold command
  split
  · simp_all
  · split
    · simp_all
    · split
      · simp_all
      · split <;> simp_all

/-- A read changes the answer only. -/
theorem hostRead_cases (a : BitVec 16) (m : State) : ∃ r, hostRead a m = respond r m := by
  unfold hostRead unlessBusy
  split <;> (try split) <;> exact ⟨_, rfl⟩

/-- A write is refused, or a command, or one register written while not busy. -/
theorem hostWrite_cases (a : BitVec 16) (v : Word) (m : State) :
    hostWrite a v m = respond .err m ∨
    (hostReg m.cap a = .cmd ∧ hostWrite a v m = command v m) ∨
    (busy m = false ∧ hostReg m.cap a = .cfgN ∧ hostWrite a v m = respond .ok { m with cfgN := v }) ∨
    (busy m = false ∧ hostReg m.cap a = .cfgR ∧ hostWrite a v m = respond .ok { m with cfgR := v }) ∨
    (∃ w, busy m = false ∧ hostReg m.cap a = .g w ∧ hostWrite a v m = respond .ok { m with g := m.g.write w v }) := by
  unfold hostWrite unlessBusy
  split <;> (try split) <;> simp_all

/-- The window reaches `G[w]` for `w < 32*R_MAX` only (R70, R71). -/
theorem hostReg_g {cap : Config.Capacity} {a : BitVec 16} {w : Nat} (h : hostReg cap a = .g w) :
    w < 32 * cap.rMax ∧ a.toNat = 0x1000 + 4 * w := by
  unfold hostReg at h
  simp only at h
  (repeat' split at h) <;> simp only [HostReg.g.injEq, reduceCtorEq] at h
  omega

/-! The parameter tests. -/

theorem paramError_blockmix {n r : Word} {cap : Config.Capacity} (h : paramError .blockmix n r cap = none) :
    1 ≤ r.toNat ∧ r.toNat ≤ cap.rMax := by
  simp only [paramError] at h
  repeat (first | split at h | cases h)
  omega

theorem paramError_romix {n r : Word} {cap : Config.Capacity} (h : paramError .romix n r cap = none) :
    validN n = true ∧ 1 ≤ r.toNat ∧ r.toNat ≤ cap.rMax ∧ 32 * r.toNat * n.toNat ≤ cap.vWords := by
  simp only [paramError] at h
  repeat (first | split at h | cases h)
  simp_all
  omega

/-- The errors `SQ.CHECK` raises are the two the unit raises (60_exceptions R270 to R273). -/
theorem paramError_some {op : Op} {n r : Word} {cap : Config.Capacity} {e : ErrCode}
    (h : paramError op n r cap = some e) : e = .invalidParameter ∨ e = .resourceExhaustion := by
  cases op <;> simp only [paramError] at h
  · (repeat' split at h) <;> simp_all
  · cases h
  · (repeat' split at h) <;> simp_all
  · (repeat' split at h) <;> simp_all

end Sys2Proof.Machine
end

