-- ==== Sys2Proof/Laws/Exec.lean ====
section
/-! SUPPORT. Each guarded micro-operation once: its next state where the accesses exist, and what a next state says. -/

namespace Sys2Proof.Machine

theorem execMxIn_eq {m : State} (h : 16 ≤ bufferWords m) :
    execMxIn m = .next { m with t := m.g.readBlock 0, st := .scLoad } := withBuffer_of_le _ h

theorem execMxOut_eq {m : State} (h : 16 ≤ bufferWords m) :
    execMxOut m = .next { m with g := m.g.writeWords 0 m.t.toList, st := .done } := withBuffer_of_le _ h

theorem execBmInit_eq {m : State} (h0 : m.cfgR.toNat ≠ 0) (h : lastBlock m.cfgR.toNat + 16 ≤ bufferWords m) :
    execBmInit m = .next { m with t := m.g.readBlock (lastBlock m.cfgR.toNat), k := 0#10, st := .bmXor } := by
  rw [execBmInit, withGroup_of_pos _ h0, withBuffer_of_le _ h]

theorem execBmXor_eq {m : State} (h : 16 * m.k.toNat + 16 ≤ bufferWords m) :
    execBmXor m = .next { m with t := zipBlock xor32 m.t (m.g.readBlock (16 * m.k.toNat)), st := .scLoad } :=
  withBuffer_of_le _ h

theorem execBmStore_eq {m : State} (h : 16 * pos m.cfgR.toNat m.k.toNat + 16 ≤ bufferWords m) :
    execBmStore m = .next
      (if m.k.toNat + 1 < 2 * m.cfgR.toNat then
        { m with y := m.y.writeWords (16 * pos m.cfgR.toNat m.k.toNat) m.t.toList, k := m.k + 1#10, st := .bmXor }
       else { m with y := m.y.writeWords (16 * pos m.cfgR.toNat m.k.toNat) m.t.toList, st := .bmCommit }) := by
  rw [execBmStore]
  exact withBuffer_of_le _ h

theorem execBmCommit_eq {m : State} (h : 32 * m.cfgR.toNat ≤ bufferWords m) :
    execBmCommit m = .next (afterCommit (commitGroup m)) := withBuffer_of_le _ h

theorem execRmFill_eq {m : State} (h : 32 * m.cfgR.toNat ≤ bufferWords m)
    (h' : entryBase m.cfgR.toNat m.i.toNat + 32 * m.cfgR.toNat ≤ m.cap.vWords) :
    execRmFill m = .next
      { m with v := m.v.writeWords (entryBase m.cfgR.toNat m.i.toNat) (m.g.readWords 0 (32 * m.cfgR.toNat)),
               st := .bmInit } := by
  simp only [execRmFill]
  rw [withBuffer_of_le _ h, withTable_of_le _ h']

theorem execRmIdx_eq {m : State} (h0 : m.cfgR.toNat ≠ 0) (h : lastBlock m.cfgR.toNat + 1 ≤ bufferWords m) :
    execRmIdx m = .next
      { m with j := and32 (m.g.read (lastBlock m.cfgR.toNat)) (m.cfgN - 1#32), st := .rmXorv } := by
  rw [execRmIdx, withGroup_of_pos _ h0, withBuffer_of_le _ h]

theorem execRmXorv_eq {m : State} (h : 32 * m.cfgR.toNat ≤ bufferWords m)
    (h' : entryBase m.cfgR.toNat m.j.toNat + 32 * m.cfgR.toNat ≤ m.cap.vWords) :
    execRmXorv m = .next
      { m with g := m.g.writeWords 0 (List.zipWith xor32 (m.g.readWords 0 (32 * m.cfgR.toNat))
                 (m.v.readWords (entryBase m.cfgR.toNat m.j.toNat) (32 * m.cfgR.toNat))),
               st := .bmInit } := by
  simp only [execRmXorv]
  rw [withBuffer_of_le _ h, withTable_of_le _ h']

/-- The state an ARX step leaves: `x` by `arx`, and the counters or `st`. -/
theorem arxStep_cases (f : ArxOp) (m : State) :
    (m.s.toNat < 31 ∧ arxStep f m = .next { m with x := arx m.x f, s := m.s + 1#5 }) ∨
    (m.s.toNat = 31 ∧ m.d.toNat < 3 ∧ arxStep f m = .next { m with x := arx m.x f, d := m.d + 1#2, s := 0#5 }) ∨
    (m.s.toNat = 31 ∧ m.d.toNat = 3 ∧ arxStep f m = .next { m with x := arx m.x f, st := .scFfwd }) := by
  have hs := m.s.isLt
  have hd := m.d.isLt
  unfold arxStep
  by_cases h1 : m.s.toNat < 31
  · exact .inl ⟨h1, by rw [if_pos h1]⟩
  · by_cases h2 : m.d.toNat < 3
    · exact .inr (.inl ⟨by omega, h2, by rw [if_neg h1, if_pos h2]⟩)
    · exact .inr (.inr ⟨by omega, by omega, by rw [if_neg h1, if_neg h2]⟩)

/-- An ARX step writes `x[a]`. -/
theorem arx_at (x : Block) (f : ArxOp) : (arx x f)[f.a] = xor32 x[f.a] (rotl32 (add32 x[f.b] x[f.c]) f.n) := by
  simp [arx]

/-- An ARX step keeps every other register. -/
theorem arx_other (x : Block) (f : ArxOp) {w : Fin 16} (h : w ≠ f.a) : (arx x f)[w] = x[w] := by
  simp only [arx, Fin.getElem_fin]
  rw [Vector.getElem_set_ne]
  exact fun he => h (Fin.ext he.symm)

/-- The branches after `BM.COMMIT`. -/
theorem afterCommit_cases (m : State) :
    (m.op = .blockmix ∧ afterCommit m = { m with st := .done }) ∨
    (m.op ≠ .blockmix ∧ m.i.toNat + 1 < m.cfgN.toNat ∧ m.ph = .fill ∧
      afterCommit m = { m with i := m.i + 1#32, st := .rmFill }) ∨
    (m.op ≠ .blockmix ∧ m.i.toNat + 1 < m.cfgN.toNat ∧ m.ph = .mix ∧
      afterCommit m = { m with i := m.i + 1#32, st := .rmIdx }) ∨
    (m.op ≠ .blockmix ∧ ¬ m.i.toNat + 1 < m.cfgN.toNat ∧ m.ph = .fill ∧
      afterCommit m = { m with ph := .mix, i := 0#32, st := .rmIdx }) ∨
    (m.op ≠ .blockmix ∧ ¬ m.i.toNat + 1 < m.cfgN.toNat ∧ m.ph = .mix ∧ afterCommit m = { m with st := .done }) := by
  unfold afterCommit
  by_cases h1 : m.op = .blockmix
  · simp [h1]
  · by_cases h2 : m.i.toNat + 1 < m.cfgN.toNat <;> cases h3 : m.ph <;> simp [h1, h2]

/-- The branches of `SQ.CHECK`. -/
theorem execSqCheck_cases (m : State) :
    (∃ e, paramError m.op m.cfgN m.cfgR m.cap = some e ∧ execSqCheck m = .next (raiseError e m)) ∨
    (paramError m.op m.cfgN m.cfgR m.cap = none ∧ execSqCheck m = .next (afterCheck m)) := by
  unfold execSqCheck
  cases h : paramError m.op m.cfgN m.cfgR m.cap <;> simp

end Sys2Proof.Machine
end

