-- ==== Sys2Proof/Laws/PerInstr.lean ====
section
/-! SUPPORT. The family TableRow: every instruction's encoding agrees with its row of spec/opcode_table.json, in the row's
format, on the bits of the row's mask. -/

namespace Sys2Proof.Laws.TableRow

/-- A code of format `HT49` whose bits under `mask` are `bits`. -/
def ht49Row (bits mask : BitVec 49) : Code → Prop
  | .ht49 w => w &&& mask = bits
  | .st4 _ | .sched17 _ => False

/-- The format, the match and the mask of the instruction's row of the table. -/
def Statement (i : Instr) : Prop :=
  match i with
  | .hrd _ => ht49Row 0x0000000000000#49 0x10000FFFFFFFF#49 (encode i)
  | .hwr _ _ => ht49Row 0x1000000000000#49 0x1000000000000#49 (encode i)
  | .mix => ht49Row 0x1000000000001#49 0x1FFFFFFFFFFFF#49 (encode i)
  | .blockmix => ht49Row 0x1000000000002#49 0x1FFFFFFFFFFFF#49 (encode i)
  | .romix => ht49Row 0x1000000000003#49 0x1FFFFFFFFFFFF#49 (encode i)
  | .abort => ht49Row 0x1000000000004#49 0x1FFFFFFFFFFFF#49 (encode i)
  | .idle => encode i = .st4 0x0#4
  | .sqCheck => encode i = .st4 0x1#4
  | .mxIn => encode i = .st4 0x2#4
  | .mxOut => encode i = .st4 0x3#4
  | .bmInit => encode i = .st4 0x4#4
  | .bmXor => encode i = .st4 0x5#4
  | .scLoad => encode i = .st4 0x6#4
  | .scArx => encode i = .st4 0x7#4
  | .scFfwd => encode i = .st4 0x8#4
  | .bmStore => encode i = .st4 0x9#4
  | .bmCommit => encode i = .st4 0xA#4
  | .rmFill => encode i = .st4 0xB#4
  | .rmIdx => encode i = .st4 0xC#4
  | .rmXorv => encode i = .st4 0xD#4
  | .done => encode i = .st4 0xE#4
  | .error => encode i = .st4 0xF#4
  | .scArx_4_0_12_7 => encode i = .sched17 0x08187#17
  | .scArx_8_4_0_9 => encode i = .sched17 0x10809#17
  | .scArx_12_8_4_13 => encode i = .sched17 0x1908D#17
  | .scArx_0_12_8_18 => encode i = .sched17 0x01912#17
  | .scArx_9_5_1_7 => encode i = .sched17 0x12A27#17
  | .scArx_13_9_5_9 => encode i = .sched17 0x1B2A9#17
  | .scArx_1_13_9_13 => encode i = .sched17 0x03B2D#17
  | .scArx_5_1_13_18 => encode i = .sched17 0x0A3B2#17
  | .scArx_14_10_6_7 => encode i = .sched17 0x1D4C7#17
  | .scArx_2_14_10_9 => encode i = .sched17 0x05D49#17
  | .scArx_6_2_14_13 => encode i = .sched17 0x0C5CD#17
  | .scArx_10_6_2_18 => encode i = .sched17 0x14C52#17
  | .scArx_3_15_11_7 => encode i = .sched17 0x07F67#17
  | .scArx_7_3_15_9 => encode i = .sched17 0x0E7E9#17
  | .scArx_11_7_3_13 => encode i = .sched17 0x16E6D#17
  | .scArx_15_11_7_18 => encode i = .sched17 0x1F6F2#17
  | .scArx_1_0_3_7 => encode i = .sched17 0x02067#17
  | .scArx_2_1_0_9 => encode i = .sched17 0x04209#17
  | .scArx_3_2_1_13 => encode i = .sched17 0x0642D#17
  | .scArx_0_3_2_18 => encode i = .sched17 0x00652#17
  | .scArx_6_5_4_7 => encode i = .sched17 0x0CA87#17
  | .scArx_7_6_5_9 => encode i = .sched17 0x0ECA9#17
  | .scArx_4_7_6_13 => encode i = .sched17 0x08ECD#17
  | .scArx_5_4_7_18 => encode i = .sched17 0x0A8F2#17
  | .scArx_11_10_9_7 => encode i = .sched17 0x17527#17
  | .scArx_8_11_10_9 => encode i = .sched17 0x11749#17
  | .scArx_9_8_11_13 => encode i = .sched17 0x1316D#17
  | .scArx_10_9_8_18 => encode i = .sched17 0x15312#17
  | .scArx_12_15_14_7 => encode i = .sched17 0x19FC7#17
  | .scArx_13_12_15_9 => encode i = .sched17 0x1B9E9#17
  | .scArx_14_13_12_13 => encode i = .sched17 0x1DB8D#17
  | .scArx_15_14_13_18 => encode i = .sched17 0x1FDB2#17

theorem hrd (a : BitVec 16) : Statement (.hrd a) := by
  apply BitVec.eq_of_getLsbD_eq
  intro n hn
  rw [BitVec.getLsbD_and, packRecord_getLsbD]
  by_cases h1 : n < 32
  · simp [h1]
  · by_cases h2 : n < 48
    · have hm : ∀ b : Nat, b < 48 → 32 ≤ b → (0x10000FFFFFFFF#49).getLsbD b = false := by decide
      simp [h1, h2, hm n h2 (by omega)]
    · simp [h1, h2]

theorem hwr (a : BitVec 16) (v : Word) : Statement (.hwr a v) := by
  apply BitVec.eq_of_getLsbD_eq
  intro n hn
  rw [BitVec.getLsbD_and, packRecord_getLsbD]
  have hm : ∀ b : Nat, b < 48 → (0x1000000000000#49).getLsbD b = false := by decide
  by_cases h : n < 48
  · rw [hm n h, Bool.and_false]
  · obtain rfl : n = 48 := by omega
    rfl

theorem mix : Statement .mix := rfl

theorem blockmix : Statement .blockmix := rfl

theorem romix : Statement .romix := rfl

theorem abort : Statement .abort := rfl

theorem idle : Statement .idle := rfl

theorem sqCheck : Statement .sqCheck := rfl

theorem mxIn : Statement .mxIn := rfl

theorem mxOut : Statement .mxOut := rfl

theorem bmInit : Statement .bmInit := rfl

theorem bmXor : Statement .bmXor := rfl

theorem scLoad : Statement .scLoad := rfl

theorem scArx : Statement .scArx := rfl

theorem scFfwd : Statement .scFfwd := rfl

theorem bmStore : Statement .bmStore := rfl

theorem bmCommit : Statement .bmCommit := rfl

theorem rmFill : Statement .rmFill := rfl

theorem rmIdx : Statement .rmIdx := rfl

theorem rmXorv : Statement .rmXorv := rfl

theorem done : Statement .done := rfl

theorem error : Statement .error := rfl

theorem scArx_4_0_12_7 : Statement .scArx_4_0_12_7 := rfl

theorem scArx_8_4_0_9 : Statement .scArx_8_4_0_9 := rfl

theorem scArx_12_8_4_13 : Statement .scArx_12_8_4_13 := rfl

theorem scArx_0_12_8_18 : Statement .scArx_0_12_8_18 := rfl

theorem scArx_9_5_1_7 : Statement .scArx_9_5_1_7 := rfl

theorem scArx_13_9_5_9 : Statement .scArx_13_9_5_9 := rfl

theorem scArx_1_13_9_13 : Statement .scArx_1_13_9_13 := rfl

theorem scArx_5_1_13_18 : Statement .scArx_5_1_13_18 := rfl

theorem scArx_14_10_6_7 : Statement .scArx_14_10_6_7 := rfl

theorem scArx_2_14_10_9 : Statement .scArx_2_14_10_9 := rfl

theorem scArx_6_2_14_13 : Statement .scArx_6_2_14_13 := rfl

theorem scArx_10_6_2_18 : Statement .scArx_10_6_2_18 := rfl

theorem scArx_3_15_11_7 : Statement .scArx_3_15_11_7 := rfl

theorem scArx_7_3_15_9 : Statement .scArx_7_3_15_9 := rfl

theorem scArx_11_7_3_13 : Statement .scArx_11_7_3_13 := rfl

theorem scArx_15_11_7_18 : Statement .scArx_15_11_7_18 := rfl

theorem scArx_1_0_3_7 : Statement .scArx_1_0_3_7 := rfl

theorem scArx_2_1_0_9 : Statement .scArx_2_1_0_9 := rfl

theorem scArx_3_2_1_13 : Statement .scArx_3_2_1_13 := rfl

theorem scArx_0_3_2_18 : Statement .scArx_0_3_2_18 := rfl

theorem scArx_6_5_4_7 : Statement .scArx_6_5_4_7 := rfl

theorem scArx_7_6_5_9 : Statement .scArx_7_6_5_9 := rfl

theorem scArx_4_7_6_13 : Statement .scArx_4_7_6_13 := rfl

theorem scArx_5_4_7_18 : Statement .scArx_5_4_7_18 := rfl

theorem scArx_11_10_9_7 : Statement .scArx_11_10_9_7 := rfl

theorem scArx_8_11_10_9 : Statement .scArx_8_11_10_9 := rfl

theorem scArx_9_8_11_13 : Statement .scArx_9_8_11_13 := rfl

theorem scArx_10_9_8_18 : Statement .scArx_10_9_8_18 := rfl

theorem scArx_12_15_14_7 : Statement .scArx_12_15_14_7 := rfl

theorem scArx_13_12_15_9 : Statement .scArx_13_12_15_9 := rfl

theorem scArx_14_13_12_13 : Statement .scArx_14_13_12_13 := rfl

theorem scArx_15_14_13_18 : Statement .scArx_15_14_13_18 := rfl

end Sys2Proof.Laws.TableRow
end

