-- ==== Sys2Proof/Laws/Run.lean ====
section
/-! SUPPORT. Runs of several steps: how they are put together; and what `STATUS` depends on. -/

namespace Sys2Proof.Machine

theorem run_zero (m : State) : Host.Core.run Sys2Proof.core 0 m = .next m := rfl

/-- A run that begins with a step to `u` is the rest of the run from `u`. -/
theorem run_succ_of_step {m u : State} (n : Nat) (h : step m = .next u) :
    Host.Core.run Sys2Proof.core (n + 1) m = Host.Core.run Sys2Proof.core n u := by
  have h' : Sys2Proof.core.step m = .next u := h
  simp only [Host.Core.run, h']

/-- A run of at least one step that comes to a next state begins with one. -/
theorem step_of_run_succ {m v : State} {n : Nat} (h : Host.Core.run Sys2Proof.core (n + 1) m = .next v) :
    ∃ u : State, step m = .next u ∧ Host.Core.run Sys2Proof.core n u = .next v := by
  simp only [Host.Core.run] at h
  split at h
  · next u hu => exact ⟨u, hu, h⟩
  · cases h
  · cases h

/-- Two runs one after the other. -/
theorem run_add {a b : Nat} {m u v : State} (h : Host.Core.run Sys2Proof.core a m = .next u)
    (h' : Host.Core.run Sys2Proof.core b u = .next v) : Host.Core.run Sys2Proof.core (a + b) m = .next v := by
  induction a generalizing m with
  | zero => cases h; rwa [Nat.zero_add]
  | succ n ih =>
    obtain ⟨w, hw, hr⟩ := step_of_run_succ h
    rw [Nat.add_right_comm, run_succ_of_step _ hw]
    exact ih hr

/-- `STATUS` is computed from `st` and `ec` (10_state R34). -/
theorem statusWord_congr {m n : State} (h : m.st = n.st) (h' : m.ec = n.ec) : statusWord m = statusWord n := by
  simp only [statusWord, busy, h, h']

end Sys2Proof.Machine
end

