-- ==== Sys2Proof/Tests/Slice0.lean ====
section
/-! SUPPORT. Tests on fixed values, each expected value from the spec (95_test_vectors, unless another file is named), and
for every statement with hypotheses a witness that meets them. -/

namespace Sys2Proof.Tests

open Sys2Proof Sys2Proof.Machine

/-! Helpers. -/

/-- The outcome is a next state of which `p` holds. -/
def nextIs (o : Result) (p : State → Bool) : Bool :=
  match o with
  | .next u => p u
  | .fault _ | .refused _ => false

/-- The sixteen Words 0 to 15 (95 "Conventions"). -/
def iota : Block := blockOf fun w => BitVec.ofNat 32 w

/-- The unit after reset, in sequencer state `st` with operation `op`, `N = 2`, `r = 1`. -/
def at2 (st : St) (op : Op) : State := { State.reset with st := st, op := op, cfgN := 2#32, cfgR := 1#32 }

/-- A store with the given Words from index 0. -/
def storeOf (ws : List Word) : Store := ({ epoch := 0, cells := [] } : Store).writeWords 0 ws

/-- `phi(n)` (95 "Conventions"). -/
def phi (n : Nat) : List Word := (List.range n).map fun w => BitVec.ofNat 32 (w * 0x9E3779B9)

/-! ## Well-formedness: the one check, with ill-formed terms (30_encoding R105, R106) -/

theorem test_wf_hwr_cmd_codes_are_refused :
    Instr.wf (.hwr 0x0000#16 1#32) = false ∧ Instr.wf (.hwr 0x0000#16 2#32) = false ∧
    Instr.wf (.hwr 0x0000#16 3#32) = false ∧ Instr.wf (.hwr 0x0000#16 4#32) = false := by decide

theorem test_wf_neighbours_are_accepted :
    Instr.wf (.hwr 0x0000#16 0#32) = true ∧ Instr.wf (.hwr 0x0000#16 5#32) = true ∧
    Instr.wf (.hwr 0x0000#16 0x00010001#32) = true ∧ Instr.wf (.hwr 0x0004#16 1#32) = true ∧
    Instr.wf (.hrd 0xFFFF#16) = true := by decide

/-! ## Decoding: words written bit by bit from the encodings (R102 to R105, R110, R116) -/

theorem test_decode_hrd_status :
    decode (.ht49 0b0000000000000010000000000000000000000000000000000#49) = .ok (.hrd 0x0004#16) := by
  decide

theorem test_decode_hwr_g0 :
    decode (.ht49 0b1000100000000000011001010111111101111000000001101#49) =
      .ok (.hwr 0x1000#16 0xCAFEF00D#32) := by decide

theorem test_decode_mix :
    decode (.ht49 0b1000000000000000000000000000000000000000000000001#49) = .ok .mix := by
  decide

theorem test_decode_blockmix :
    decode (.ht49 0b1000000000000000000000000000000000000000000000010#49) = .ok .blockmix := by
  decide

theorem test_decode_romix :
    decode (.ht49 0b1000000000000000000000000000000000000000000000011#49) = .ok .romix := by
  decide

theorem test_decode_abort :
    decode (.ht49 0b1000000000000000000000000000000000000000000000100#49) = .ok .abort := by
  decide

theorem test_decode_reserved_command_is_hwr :
    decode (.ht49 0b1000000000000000000000000000000000000000000000101#49) =
      .ok (.hwr 0x0000#16 5#32) := by decide

/-- R103: a read carries `d = 0`; anything else is no row (R121). -/
theorem test_decode_read_with_data :
    decode (.ht49 0b0000000000000000000000000000000000000000000000001#49) = .error .readWithData := by
  decide

theorem test_decode_st4 :
    decode (.st4 0b0000#4) = .ok .idle ∧
    decode (.st4 0b0001#4) = .ok .sqCheck ∧
    decode (.st4 0b0010#4) = .ok .mxIn ∧
    decode (.st4 0b0011#4) = .ok .mxOut ∧
    decode (.st4 0b0100#4) = .ok .bmInit ∧
    decode (.st4 0b0101#4) = .ok .bmXor ∧
    decode (.st4 0b0110#4) = .ok .scLoad ∧
    decode (.st4 0b0111#4) = .ok .scArx ∧
    decode (.st4 0b1000#4) = .ok .scFfwd ∧
    decode (.st4 0b1001#4) = .ok .bmStore ∧
    decode (.st4 0b1010#4) = .ok .bmCommit ∧
    decode (.st4 0b1011#4) = .ok .rmFill ∧
    decode (.st4 0b1100#4) = .ok .rmIdx ∧
    decode (.st4 0b1101#4) = .ok .rmXorv ∧
    decode (.st4 0b1110#4) = .ok .done ∧
    decode (.st4 0b1111#4) = .ok .error := by decide

theorem test_decode_sched_0_to_7 :
    decode (.sched17 0b01000000110000111#17) = .ok .scArx_4_0_12_7 ∧
    decode (.sched17 0b10000100000001001#17) = .ok .scArx_8_4_0_9 ∧
    decode (.sched17 0b11001000010001101#17) = .ok .scArx_12_8_4_13 ∧
    decode (.sched17 0b00001100100010010#17) = .ok .scArx_0_12_8_18 ∧
    decode (.sched17 0b10010101000100111#17) = .ok .scArx_9_5_1_7 ∧
    decode (.sched17 0b11011001010101001#17) = .ok .scArx_13_9_5_9 ∧
    decode (.sched17 0b00011101100101101#17) = .ok .scArx_1_13_9_13 ∧
    decode (.sched17 0b01010001110110010#17) = .ok .scArx_5_1_13_18 := by decide

theorem test_decode_sched_8_to_15 :
    decode (.sched17 0b11101010011000111#17) = .ok .scArx_14_10_6_7 ∧
    decode (.sched17 0b00101110101001001#17) = .ok .scArx_2_14_10_9 ∧
    decode (.sched17 0b01100010111001101#17) = .ok .scArx_6_2_14_13 ∧
    decode (.sched17 0b10100110001010010#17) = .ok .scArx_10_6_2_18 ∧
    decode (.sched17 0b00111111101100111#17) = .ok .scArx_3_15_11_7 ∧
    decode (.sched17 0b01110011111101001#17) = .ok .scArx_7_3_15_9 ∧
    decode (.sched17 0b10110111001101101#17) = .ok .scArx_11_7_3_13 ∧
    decode (.sched17 0b11111011011110010#17) = .ok .scArx_15_11_7_18 := by decide

theorem test_decode_sched_16_to_23 :
    decode (.sched17 0b00010000001100111#17) = .ok .scArx_1_0_3_7 ∧
    decode (.sched17 0b00100001000001001#17) = .ok .scArx_2_1_0_9 ∧
    decode (.sched17 0b00110010000101101#17) = .ok .scArx_3_2_1_13 ∧
    decode (.sched17 0b00000011001010010#17) = .ok .scArx_0_3_2_18 ∧
    decode (.sched17 0b01100101010000111#17) = .ok .scArx_6_5_4_7 ∧
    decode (.sched17 0b01110110010101001#17) = .ok .scArx_7_6_5_9 ∧
    decode (.sched17 0b01000111011001101#17) = .ok .scArx_4_7_6_13 ∧
    decode (.sched17 0b01010100011110010#17) = .ok .scArx_5_4_7_18 := by decide

theorem test_decode_sched_24_to_31 :
    decode (.sched17 0b10111010100100111#17) = .ok .scArx_11_10_9_7 ∧
    decode (.sched17 0b10001011101001001#17) = .ok .scArx_8_11_10_9 ∧
    decode (.sched17 0b10011000101101101#17) = .ok .scArx_9_8_11_13 ∧
    decode (.sched17 0b10101001100010010#17) = .ok .scArx_10_9_8_18 ∧
    decode (.sched17 0b11001111111000111#17) = .ok .scArx_12_15_14_7 ∧
    decode (.sched17 0b11011100111101001#17) = .ok .scArx_13_12_15_9 ∧
    decode (.sched17 0b11101101110001101#17) = .ok .scArx_14_13_12_13 ∧
    decode (.sched17 0b11111110110110010#17) = .ok .scArx_15_14_13_18 := by decide

/-- R115: a word with the fields of row 0 but `n = 8` is reserved. -/
theorem test_decode_sched_reserved :
    decode (.sched17 0b01000000110001000#17) = .error .reservedScheduleWord := by decide

/-- R117: the schedule is the double-round of R147 to R149, step by step. -/
theorem test_schedule_is_the_double_round : schedOps = dRound := by decide

/-- The forms' codes are the schedule, in order (R116). -/
theorem test_forms_encode_the_schedule : schedForms.map encode = schedWords.map Code.sched17 := by decide

theorem test_table_words :
    decodeTableWord 56 0x0000000000000 = some (.hrd 0x0000#16) ∧
    decodeTableWord 56 0x1000000000000 = some (.hwr 0x0000#16 0#32) ∧
    decodeTableWord 56 0x1000000000004 = some .abort ∧
    decodeTableWord 8 0xD = some .rmXorv ∧
    decodeTableWord 24 0x1FDB2 = some .scArx_15_14_13_18 ∧
    decodeTableWord 24 0x00000 = none := by decide
/-! ## One step per instruction -/

/-- 6.3: `CFG_N` after reset reads 0; P5: `CFG_R` is refused while busy. -/
theorem test_hrd :
    nextIs (exec (.hrd 0x0008#16) State.reset) (fun u => u.resp == some (.data 0#32)) = true ∧
    nextIs (exec (.hrd 0x000C#16) (at2 .scArx .blockmix)) (fun u => u.resp == some .err) = true := by decide

/-- 6.3: offsets that are misaligned or unmapped. -/
theorem test_hrd_err :
    nextIs (exec (.hrd 0x0002#16) State.reset) (fun u => u.resp == some .err) = true ∧
    nextIs (exec (.hrd 0x0010#16) State.reset) (fun u => u.resp == some .err) = true ∧
    nextIs (exec (.hrd 0x0FFC#16) State.reset) (fun u => u.resp == some .err) = true ∧
    nextIs (exec (.hrd 0xFFFC#16) State.reset) (fun u => u.resp == some .err) = true := by decide

/-- 6.3: the last Word of the window with `R_MAX = 8` is `G[255]`, and the next offset is unmapped. -/
theorem test_hwr_window_end :
    nextIs (exec (.hwr 0x13FC#16 1#32) State.reset)
      (fun u => u.g.read 255 == 1#32 && u.resp == some .ok) = true ∧
    nextIs (exec (.hwr 0x1400#16 1#32) State.reset)
      (fun u => decide (u = { State.reset with resp := some .err })) = true := by decide

/-- 6.3: `STATUS` is read-only, `CMD` compares all 32 bits; `CFG_N` stores any value. -/
theorem test_hwr_registers :
    nextIs (exec (.hwr 0x0004#16 0#32) State.reset) (fun u => u.resp == some .err) = true ∧
    nextIs (exec (.hwr 0x0000#16 0x00010001#32) State.reset) (fun u => u.resp == some .err) = true ∧
    nextIs (exec (.hwr 0x0008#16 0xFFFFFFFF#32) State.reset) (fun u => u.cfgN == 0xFFFFFFFF#32) = true := by decide

/-- P6: `MIX` again, from `DONE`: `BUSY`, `DONE` cleared. -/
theorem test_mix :
    nextIs (exec .mix (at2 .done .mix)) (fun u => u.st == .check && statusWord u == 0x00000001#32) = true := by decide

/-- P5: a start code while busy is refused. -/
theorem test_mix_busy :
    nextIs (exec .mix (at2 .scArx .blockmix)) (fun u => u.resp == some .err && u.op == .blockmix) = true := by decide

/-- P4: a `BLOCKMIX` is accepted from `ERROR`, which clears `ec` (60_exceptions R277). -/
theorem test_blockmix :
    nextIs (exec .blockmix { at2 .error .romix with ec := 1#4 })
      (fun u => u.st == .check && u.op == .blockmix && u.ec == 0#4) = true := by decide

theorem test_romix :
    nextIs (exec .romix State.reset) (fun u => u.st == .check && u.op == .romix && u.resp == some .ok) = true := by
  decide

/-- P4: `ABORT` acknowledges an error and keeps `G` and the configuration. -/
theorem test_abort_acknowledges :
    nextIs (exec .abort { at2 .error .romix with ec := 2#4, g := storeOf [0x11111111#32] })
      (fun u => statusWord u == 0#32 && u.g.read 0 == 0x11111111#32 && u.cfgN == 2#32 && u.cfgR == 1#32) = true := by
  decide

/-- P5: `ABORT` while busy: `IDLE`, configuration kept. -/
theorem test_abort_busy :
    nextIs (exec .abort (at2 .scArx .blockmix))
      (fun u => u.st == .idle && u.op == .none && u.cfgR == 1#32 && u.resp == some .ok) = true := by decide

/-- 30_encoding R110: at rest nothing happens. -/
theorem test_resting :
    nextIs (exec .idle State.reset) (fun u => decide (u = State.reset)) = true ∧
    nextIs (exec .done (at2 .done .mix)) (fun u => decide (u = at2 .done .mix)) = true ∧
    nextIs (exec .error (at2 .error .mix)) (fun u => decide (u = at2 .error .mix)) = true := by decide

/-- 6.1, rows of `ROMIX`: the state reached and the code. -/
theorem test_sqCheck_romix :
    ([(0x64, 1, St.error, 1), (1, 1, .error, 1), (0, 1, .error, 1), (0xFFFFFFFF, 1, .error, 1), (2, 0, .error, 1),
      (0x64, 9, .error, 1), (2, 9, .error, 2), (2, 0xFFFFFFFF, .error, 2), (0x800, 8, .error, 2),
      (0x400, 8, .rmFill, 0), (0x2000, 1, .rmFill, 0), (0x4000, 1, .error, 2), (0x80000000, 1, .error, 2)] :
        List (Nat × Nat × St × Nat)).all (fun row =>
      nextIs (exec .sqCheck { at2 .check .romix with cfgN := BitVec.ofNat 32 row.1, cfgR := BitVec.ofNat 32 row.2.1 })
        (fun u => u.st == row.2.2.1 && u.ec.toNat == row.2.2.2)) = true := by decide

/-- 6.1, rows of `BLOCKMIX` and `MIX`. -/
theorem test_sqCheck_others :
    ([(Op.blockmix, 0x64, 0, St.error, 1), (.blockmix, 0, 9, .error, 2), (.blockmix, 0, 1, .bmInit, 0),
      (.blockmix, 0x64, 8, .bmInit, 0), (.mix, 0, 0, .mxIn, 0), (.mix, 0x64, 9, .mxIn, 0)] :
        List (Op × Nat × Nat × St × Nat)).all (fun row =>
      nextIs (exec .sqCheck
          { at2 .check row.1 with cfgN := BitVec.ofNat 32 row.2.1, cfgR := BitVec.ofNat 32 row.2.2.1 })
        (fun u => u.st == row.2.2.2.1 && u.ec.toNat == row.2.2.2.2)) = true := by decide

/-- P1: `MX.IN` takes `iota` from `G`. -/
theorem test_mxIn :
    nextIs (exec .mxIn { at2 .mxIn .mix with g := storeOf (iota.toList ++ [99#32]) })
      (fun u => u.t == iota && u.st == .scLoad) = true := by decide

set_option maxRecDepth 8192 in
/-- P1: `MX.OUT` replaces Block 0 only and ends in `DONE`. -/
theorem test_mxOut :
    nextIs (exec .mxOut { at2 .mxOut .mix with t := iota, g := storeOf (List.replicate 17 7#32) })
      (fun u => u.g.readWords 0 17 == iota.toList ++ [7#32] && u.st == .done) = true := by decide

/-- 4.1 and 41_blockmixer R171: `T` is the last Block of `phi(32)`. -/
theorem test_bmInit :
    nextIs (exec .bmInit { at2 .bmInit .blockmix with g := storeOf (phi 32), k := 5#10 })
      (fun u => u.t.toList == (phi 32).drop 16 && u.k == 0#10 && u.st == .bmXor) = true := by decide

set_option maxRecDepth 8192 in
/-- 4.1: `T` after `BM.INIT` and the first `BM.XOR`, its first two and its last Word. -/
theorem test_bmXor :
    nextIs (exec .bmXor { at2 .bmXor .blockmix with g := storeOf (phi 32), t := (storeOf (phi 32)).readBlock 16 })
      (fun u => u.t[0] == 0xE3779B90#32 && u.t[1] == 0x1F986CF0#32 && u.t[15] == 0x6DF79CB0#32 && u.st == .scLoad) =
      true := by decide

theorem test_scLoad :
    nextIs (exec .scLoad { at2 .scLoad .mix with t := iota, d := 3#2, s := 31#5 })
      (fun u => u.x == iota && u.d == 0#2 && u.s == 0#5 && u.st == .scArx) = true := by decide

/-- 3.2: `s = 19` and `s = 0`. -/
theorem test_scArx :
    nextIs (exec .scArx { at2 .scArx .mix with s := 19#5, x := (zeroBlock.set 3 3#32).set 2 2#32 })
      (fun u => u.x[0] == 0x00140000#32 && u.s == 20#5 && u.d == 0#2) = true ∧
    nextIs (exec .scArx { at2 .scArx .mix with s := 0#5, x := (zeroBlock.set 0 0xFFFFFFFF#32).set 12 1#32 |>.set 4 0x55555555#32 })
      (fun u => u.x[4] == 0x55555555#32 && u.s == 1#5) = true := by decide

/-- 3.2: `s = 31`, and the end of a double-round and of the pass (40_streamcore R142). -/
theorem test_scArx_end :
    nextIs (exec .scArx { at2 .scArx .mix with
        s := 31#5, d := 2#2, x := (zeroBlock.set 14 0x01234567#32).set 13 0x89ABCDEF#32 |>.set 15 0xFFFFFFFF#32 })
      (fun u => u.x[15] == 0xB2A5D4C3#32 && u.s == 0#5 && u.d == 3#2 && u.st == .scArx) = true ∧
    nextIs (exec .scArx { at2 .scArx .mix with s := 31#5, d := 3#2 })
      (fun u => u.s == 31#5 && u.d == 3#2 && u.st == .scFfwd) = true := by decide

/-- `iota` after `COLROUND`, and after the whole first double-round (3.4). -/
def afterCol : Block :=
  #v[0x20560736#32, 0xC3E2C001#32, 0x00103002#32, 0x00000D03#32, 0x00000604#32, 0x703B0FA6#32, 0x07020004#32,
     0x001A2407#32, 0x000C0808#32, 0x00000309#32, 0xC0181C42#32, 0x46214008#32, 0x81C1800D#32, 0x00061C0D#32,
     0x0000080E#32, 0x903D18E2#32]

def afterRow : Block :=
  #v[0x5FF84399#32, 0xE8E8DC91#32, 0x7DD7BE10#32, 0x135421DB#32, 0x96C9D24F#32, 0xBDBF75D0#32, 0x1A88D53C#32,
     0x87D3E112#32, 0x8E085C1C#32, 0xE840980F#32, 0x10B5C561#32, 0x4A2EE5E8#32, 0x9F51F845#32, 0x1E245252#32,
     0xC952FFA0#32, 0xD7F6853F#32]

/-- Each round writes every register once, so before the step of a form the registers of earlier forms of the round hold
the round's results and the others its inputs; the step must write its own result. -/
def formsGive (start result : Block) : List SchedRow → List (Fin 16) → Bool
  | [], _ => true
  | row :: rest, written =>
    nextIs (exec row.form { at2 .scArx .mix with
        s := BitVec.ofNat 5 row.s, x := blockOf fun w => if w ∈ written then result[w] else start[w] })
      (fun u => u.x == blockOf fun w => if w ∈ row.op.a :: written then result[w] else start[w]) &&
    formsGive start result rest (row.op.a :: written)

theorem test_forms_of_the_column_round : formsGive iota afterCol (schedRows.take 16) [] = true := by decide

theorem test_forms_of_the_row_round : formsGive afterCol afterRow (schedRows.drop 16) [] = true := by decide

/-- 3.4 and 3.5: `x` before `SC.FFWD` of `MIX` on `iota`, some Words, and the sums. -/
theorem test_scFfwd :
    nextIs (exec .scFfwd { at2 .scFfwd .mix with
        t := iota, x := (zeroBlock.set 0 0x4FDD18F5#32).set 1 0xE08388B8#32 |>.set 15 0x5D47FA4B#32 })
      (fun u => u.t[0] == 0x4FDD18F5#32 && u.t[1] == 0xE08388B9#32 && u.t[15] == 0x5D47FA5A#32 && u.st == .mxOut) =
      true ∧
    nextIs (exec .scFfwd (at2 .scFfwd .romix)) (fun u => u.st == .bmStore) = true := by decide

/-- 4.2: with `r = 2` the Block of `k = 1` goes to `Y[32 .. 47]`; the last, of `k = 3`, to `Y[48 .. 63]`. -/
theorem test_bmStore :
    nextIs (exec .bmStore { at2 .bmStore .blockmix with cfgR := 2#32, k := 1#10, t := iota })
      (fun u => u.y.readWords 31 17 == 0#32 :: iota.toList && u.k == 2#10 && u.st == .bmXor) = true ∧
    nextIs (exec .bmStore { at2 .bmStore .blockmix with cfgR := 2#32, k := 3#10, t := iota })
      (fun u => u.y.readWords 48 16 == iota.toList && u.k == 3#10 && u.st == .bmCommit) = true := by decide

set_option maxRecDepth 8192 in
/-- 41_blockmixer R175, and section 8: the five ways on. -/
theorem test_bmCommit :
    nextIs (exec .bmCommit { at2 .bmCommit .blockmix with y := storeOf (phi 33) })
      (fun u => u.g.readWords 0 33 == phi 32 ++ [0#32] && u.st == .done) = true ∧
    nextIs (exec .bmCommit { at2 .bmCommit .romix with i := 0#32 }) (fun u => u.i == 1#32 && u.st == .rmFill) = true ∧
    nextIs (exec .bmCommit { at2 .bmCommit .romix with i := 1#32 })
      (fun u => u.i == 0#32 && u.ph == .mix && u.st == .rmIdx) = true := by decide

/-- P3: the mix pass ends with `ph = 1`, `i = 1`. -/
theorem test_bmCommit_mix :
    nextIs (exec .bmCommit { at2 .bmCommit .romix with ph := .mix, i := 0#32 })
      (fun u => u.i == 1#32 && u.ph == .mix && u.st == .rmIdx) = true ∧
    nextIs (exec .bmCommit { at2 .bmCommit .romix with ph := .mix, i := 1#32 })
      (fun u => u.i == 1#32 && u.ph == .mix && u.st == .done) = true := by decide

set_option maxRecDepth 8192 in
/-- P3: `V[32 .. 63]` is the group of `i = 1`. -/
theorem test_rmFill :
    nextIs (exec .rmFill { at2 .rmFill .romix with g := storeOf (phi 32), i := 1#32 })
      (fun u => u.v.readWords 32 32 == phi 32 && u.v.readWords 0 32 == List.replicate 32 0#32 && u.st == .bmInit) =
      true := by decide

/-- 2.3, mix iteration 2: `G[16] = 8e5c8bd5` with `N = 16` gives `j = 5`. -/
theorem test_rmIdx :
    nextIs (exec .rmIdx { at2 .rmIdx .romix with cfgN := 16#32, g := storeOf (List.replicate 16 0#32 ++ [0x8E5C8BD5#32]) })
      (fun u => u.j == 5#32 && u.st == .rmXorv) = true := by decide

set_option maxRecDepth 8192 in
/-- 42_romix R196: entry 1 is folded into the group; the numbers are 4.1's, Block 1 xor Block 0 of `phi(32)`. -/
theorem test_rmXorv :
    nextIs (exec .rmXorv { at2 .rmXorv .romix with
        j := 1#32, g := storeOf ((phi 32).drop 16), v := storeOf (List.replicate 32 0#32 ++ phi 16) })
      (fun u => u.g.read 0 == 0xE3779B90#32 && u.g.read 1 == 0x1F986CF0#32 && u.g.read 15 == 0x6DF79CB0#32 &&
        u.v.read 33 == 0x9E3779B9#32 && u.st == .bmInit) = true := by decide

/-! ## Values and pseudo-instructions -/

/-- 3.1. -/
theorem test_word_primitives :
    add32 0xFFFFFFFF#32 0x00000001#32 = 0x00000000#32 ∧ add32 0x12345678#32 0x9ABCDEF0#32 = 0xACF13568#32 ∧
    rotl32 0x80000001#32 7 = 0x000000C0#32 ∧ rotl32 0x12345678#32 9 = 0x68ACF024#32 ∧
    rotl32 0xDEADBEEF#32 13 = 0xB7DDFBD5#32 ∧ rotl32 0x12345678#32 18 = 0x59E048D1#32 ∧
    xor32 0x0000FFFF#32 0x00FF00FF#32 = 0x00FFFF00#32 ∧ and32 0x8E5C8BD5#32 0x0000000F#32 = 0x00000005#32 := by decide

/-- 3.3: `QR 0, 4, 8, 12` on `iota`. -/
theorem test_quarter_round :
    applyArx (qr 0 4 8 12) iota =
      (((iota.set 4 0x604#32).set 8 0xC0808#32).set 12 0x81C1800D#32).set 0 0x20560736#32 := by decide

/-- 3.4: `ROWROUND` alone on `iota`, two Words. -/
theorem test_row_round :
    (applyArx rowRound iota)[0] = 0x881581CD#32 ∧ (applyArx rowRound iota)[15] = 0x586AA2CE#32 := by decide

/-- 2.1: the first four bytes of the Salsa20/8 input are the Word `219a877e`. -/
theorem test_pack :
    unpackLe [0x7E#8, 0x87#8, 0x9A#8, 0x21#8] = some [0x219A877E#32] ∧
    packLe [0x219A877E#32] = [0x7E#8, 0x87#8, 0x9A#8, 0x21#8] ∧ unpackLe [0x7E#8] = none := by decide

/-- 30_encoding R120, 95 P3: `SETN 2`, `SETR 1`, `LOADG`, `WAIT`. -/
theorem test_pseudo :
    encode (setN 2#32) = .ht49 0x1000800000002#49 ∧ encode (setR 1#32) = .ht49 0x1000C00000001#49 ∧
    loadG [0x7E#8, 0x87#8, 0x9A#8, 0x21#8, 1#8, 0#8, 0#8, 0#8] =
      some [.hwr 0x1000#16 0x219A877E#32, .hwr 0x1004#16 1#32] ∧
    encode waitPoll = .ht49 0x0000400000000#49 ∧
    waitOver { State.reset with resp := some (.data 1#32) } = false ∧
    waitOver { State.reset with resp := some (.data 2#32) } = true := by decide

/-- 6.2. -/
theorem test_status :
    statusWord (at2 .error .romix) = 0x00000004#32 ∧ statusWord { at2 .error .romix with ec := 1#4 } = 0x14#32 ∧
    statusWord { at2 .error .romix with ec := 2#4 } = 0x24#32 ∧ statusWord (at2 .done .mix) = 2#32 ∧
    statusWord (at2 .rmXorv .romix) = 1#32 := by decide

/-- 10_state R38 and 20_memory R70: the window's last offset with `R_MAX = 1` and with `R_MAX = 480` (6.3). -/
theorem test_window_ends :
    hostReg { rMax := 1, vWords := 0 } 0x107C#16 = .g 31 ∧ hostReg { rMax := 1, vWords := 0 } 0x1080#16 = .unmapped ∧
    hostReg { rMax := 480, vWords := 0 } 0xFFFC#16 = .g 15359 ∧ gOffset 255 = 0x13FC#16 := by decide

/-! ## Stepping, and the placing of one instruction (notes/assumptions/14) -/

/-- The opcode-table bits of every row (an `HRD` and an `HWR` with offset 0), in whole bytes. -/
def tableWords : List (Nat × Nat) :=
  [(56, 0x0000000000000), (56, 0x1000000000000), (56, 0x1000000000001), (56, 0x1000000000002),
   (56, 0x1000000000003), (56, 0x1000000000004)] ++
  (List.range 16).map (fun c => (8, c)) ++ schedRows.map (fun row => (24, row.word.toNat))

theorem test_every_row_decodes_and_runs :
    tableWords.all (fun e => match decodeTableWord e.1 e.2 with
      | none => false
      | some _ => nextIs (step (State.reset.withFetchWord e.1 e.2)) (fun _ => true)) = true := by decide

/-- `step` runs the placed instruction: `BM.STORE` advances `k`, `SC.ARX` row 19 advances `s`, a read answers. -/
theorem test_placed_instruction_runs :
    nextIs (step (State.reset.withFetchWord 8 0x9)) (fun u => u.k == 1#10 && u.st == .bmXor) = true ∧
    nextIs (step (State.reset.withFetchWord 24 0x00652)) (fun u => u.s == 20#5) = true ∧
    nextIs (step (State.reset.withFetchWord 56 0x0000400000000)) (fun u => u.resp == some (.data 0#32)) = true := by
  decide

/-- The states in which a state code or a schedule word is placed keep the invariant. -/
theorem test_placed_states_are_legal :
    ((List.range 16).all fun c =>
      let u := State.reset.withFetchWord 8 c
      capOk u && storesOk u && ecOk u && controlOk u) = true := by decide

/-- 60_exceptions R278, 20_memory R72: a transaction of another width. -/
theorem test_other_width :
    nextIs (step { State.reset with inputs := [.otherWidth] })
      (fun u => decide (u = { State.reset with resp := some .err })) = true := by decide

/-- 70_reset R310: the reset input in a run. -/
theorem test_reset_input :
    nextIs (step { at2 .scArx .romix with inputs := [.reset] })
      (fun u => u.st == .idle && u.op == .none && u.cfgN == 0#32 && u.cfgR == 0#32 && statusWord u == 0#32) = true := by
  decide

/-! ## Witnesses: for every statement with hypotheses, values that meet them; for one with clauses, values at their edges -/

/-- The capacities of a unit with `R_MAX = 480`, the largest. -/
def big (m : State) : State := { m with cap := { rMax := 480, vWords := 30720 }, cfgR := 480#32 }

theorem witness_DecodeOfEncode :
    Instr.wf (.hrd 0xFFFF#16) = true ∧ Instr.wf (.hwr 0x0000#16 0#32) = true ∧ Instr.wf .scArx_0_3_2_18 = true := by
  decide

theorem witness_EncodeOfDecode :
    decode (.ht49 0x1000000000003#49) = .ok .romix ∧ decode (.ht49 0x1FFFF00000000#49) = .ok (.hwr 0xFFFF#16 0#32) ∧
    decode (.st4 0xF#4) = .ok .error ∧ decode (.sched17 0x00652#17) = .ok .scArx_0_3_2_18 := by decide

theorem witness_BytePacking :
    ([1#8, 2#8, 3#8] : List (BitVec 8)).length % 4 ≠ 0 ∧ unpackLe [] = some [] ∧
    unpackLe [1#8, 2#8, 3#8, 0x84#8] = some [0x84030201#32] ∧ 0 < [7#32].length ∧ 3 < 4 := by decide

theorem witness_WordPrimitives : (1 ≤ 1 ∧ 1 ≤ 31) ∧ (1 ≤ 31 ∧ 31 ≤ 31) := by decide

theorem witness_ScheduleFormsStep :
    (schedRows.map SchedRow.form).head? = some .scArx_4_0_12_7 ∧
    (schedRows.map SchedRow.form).getLast? = some .scArx_15_14_13_18 ∧ schedRows.length = 32 := by decide

theorem witness_ScheduleIsEightQuarterRounds :
    ([(0, 4, 8, 12), (5, 9, 13, 1), (10, 14, 2, 6), (15, 3, 7, 11),
      (0, 1, 2, 3), (5, 6, 7, 4), (10, 11, 8, 9), (15, 12, 13, 14)] :
        List (Fin 16 × Fin 16 × Fin 16 × Fin 16))[(7 : Fin 8).val]? = some (15, 12, 13, 14) := by decide

/-- The three ways an ARX step goes on. -/
theorem witness_ArxEffect :
    ({ at2 .scArx .mix with s := 30#5 } : State).s.toNat < 31 ∧
    (({ at2 .scArx .mix with s := 31#5, d := 2#2 } : State).s.toNat = 31 ∧
      ({ at2 .scArx .mix with s := 31#5, d := 2#2 } : State).d.toNat < 3) ∧
    (({ at2 .scArx .mix with s := 31#5, d := 3#2 } : State).s.toNat = 31 ∧
      ({ at2 .scArx .mix with s := 31#5, d := 3#2 } : State).d.toNat = 3) := by decide

theorem witness_ScFfwdAddsTheInput : (at2 .scFfwd .mix).op = .mix ∧ (at2 .scFfwd .romix).op ≠ .mix := by decide

theorem witness_StreamCorePass :
    ((at2 .scLoad .mix).st = .scLoad ∧ (at2 .scLoad .mix).inputs = [] ∧ (at2 .scLoad .mix).op = .mix) ∧
    ((at2 .scLoad .romix).st = .scLoad ∧ (at2 .scLoad .romix).inputs = [] ∧ (at2 .scLoad .romix).op ≠ .mix) := by decide

theorem witness_QuarterRound :
    (0 : Fin 16) ≠ 4 ∧ (0 : Fin 16) ≠ 8 ∧ (0 : Fin 16) ≠ 12 ∧ (4 : Fin 16) ≠ 8 ∧ (4 : Fin 16) ≠ 12 ∧
    (8 : Fin 16) ≠ 12 := by decide

theorem witness_ArxStepsAreUndone : (schedRows.map SchedRow.op).head? = some { a := 4, b := 0, c := 12, n := 7 } := by
  decide

theorem witness_InterleavePlaces :
    (0 % 2 = 0 ∧ 0 < 2 * 2) ∧ (3 % 2 = 1 ∧ 3 < 2 * 2) ∧ (pos 2 1 = pos 2 1 ∧ 1 < 2 * 2) := by decide

theorem witness_BmInitLoadsTheLastBlock :
    (1 ≤ (at2 .bmInit .romix).cfgR.toNat ∧ (at2 .bmInit .romix).cfgR.toNat ≤ (at2 .bmInit .romix).cap.rMax) ∧
    (1 ≤ (big State.reset).cfgR.toNat ∧ (big State.reset).cfgR.toNat ≤ (big State.reset).cap.rMax) := by decide

theorem witness_BmXorFoldsBlockK :
    (let u := at2 .bmXor .romix
     u.k.toNat < 2 * u.cfgR.toNat ∧ u.cfgR.toNat ≤ u.cap.rMax) ∧
    (let u := { big State.reset with k := 959#10 }
     u.k.toNat < 2 * u.cfgR.toNat ∧ u.cfgR.toNat ≤ u.cap.rMax) := by decide

theorem witness_BmStoreInterleaves :
    (let u := at2 .bmStore .romix
     u.k.toNat < 2 * u.cfgR.toNat ∧ u.cfgR.toNat ≤ u.cap.rMax ∧ u.cap.rMax ≤ 480 ∧ u.k.toNat + 1 < 2 * u.cfgR.toNat) ∧
    (let u := { big State.reset with k := 959#10 }
     u.k.toNat < 2 * u.cfgR.toNat ∧ u.cfgR.toNat ≤ u.cap.rMax ∧ u.cap.rMax ≤ 480 ∧
       u.k.toNat + 1 = 2 * u.cfgR.toNat) := by decide

theorem witness_BmCommitCopiesAndGoesOn :
    (let u := at2 .bmCommit .blockmix
     u.cfgR.toNat ≤ u.cap.rMax ∧ u.op = .blockmix) ∧
    (let u := at2 .bmCommit .romix
     u.cfgR.toNat ≤ u.cap.rMax ∧ u.op = .romix ∧ u.i.toNat < u.cfgN.toNat ∧ u.i.toNat + 1 < u.cfgN.toNat ∧
       u.ph = .fill) ∧
    (let u := { at2 .bmCommit .romix with ph := .mix }
     u.cfgR.toNat ≤ u.cap.rMax ∧ u.op = .romix ∧ u.i.toNat < u.cfgN.toNat ∧ u.i.toNat + 1 < u.cfgN.toNat ∧
       u.ph = .mix) ∧
    (let u := { at2 .bmCommit .romix with i := 1#32 }
     u.cfgR.toNat ≤ u.cap.rMax ∧ u.op = .romix ∧ u.i.toNat < u.cfgN.toNat ∧ u.i.toNat + 1 = u.cfgN.toNat ∧
       u.ph = .fill) ∧
    (let u := { at2 .bmCommit .romix with i := 1#32, ph := .mix }
     u.cfgR.toNat ≤ u.cap.rMax ∧ u.op = .romix ∧ u.i.toNat < u.cfgN.toNat ∧ u.i.toNat + 1 = u.cfgN.toNat ∧
       u.ph = .mix) := by decide

theorem witness_BlockMixPlacement : 0 < 2 * 1 ∧ 959 < 2 * 480 := by decide

theorem witness_BlockMixerRun :
    (let u := at2 .bmInit .blockmix
     u.st = .bmInit ∧ u.inputs = [] ∧ u.op = .blockmix ∧ 1 ≤ u.cfgR.toNat ∧ u.cfgR.toNat ≤ u.cap.rMax ∧
       u.cap.rMax ≤ 480) ∧
    (let u := { big (at2 .bmInit .romix) with cfgN := 2#32 }
     u.st = .bmInit ∧ u.inputs = [] ∧ u.op = .romix ∧ 1 ≤ u.cfgR.toNat ∧ u.cfgR.toNat ≤ u.cap.rMax ∧
       u.cap.rMax ≤ 480) := by decide

/-- The clauses of the check, with the values of 6.1 at their edges. -/
theorem witness_SqCheckOutcomes :
    (at2 .check .mix).op ≠ .none ∧
    (let u := { at2 .check .blockmix with cfgR := 0#32 }
     u.op = .blockmix ∧ u.cfgR.toNat = 0) ∧
    (let u := { at2 .check .blockmix with cfgR := 9#32 }
     u.op = .blockmix ∧ u.cfgR.toNat > u.cap.rMax) ∧
    (let u := { at2 .check .blockmix with cfgR := 8#32 }
     u.op = .blockmix ∧ 1 ≤ u.cfgR.toNat ∧ u.cfgR.toNat ≤ u.cap.rMax) ∧
    (let u := { at2 .check .romix with cfgN := 1#32 }
     u.op = .romix ∧ ¬(2 ≤ u.cfgN.toNat ∧ u.cfgN &&& (u.cfgN - 1#32) = 0#32)) ∧
    (let u := { at2 .check .romix with cfgR := 9#32 }
     u.op = .romix ∧ (2 ≤ u.cfgN.toNat ∧ u.cfgN &&& (u.cfgN - 1#32) = 0#32) ∧ u.cfgR.toNat > u.cap.rMax) ∧
    (let u := { at2 .check .romix with cfgN := 0x800#32, cfgR := 8#32 }
     u.op = .romix ∧ (2 ≤ u.cfgN.toNat ∧ u.cfgN &&& (u.cfgN - 1#32) = 0#32) ∧
       32 * u.cfgR.toNat * u.cfgN.toNat > u.cap.vWords) ∧
    (let u := { at2 .check .romix with cfgN := 0x400#32, cfgR := 8#32 }
     u.op = .romix ∧ (2 ≤ u.cfgN.toNat ∧ u.cfgN &&& (u.cfgN - 1#32) = 0#32) ∧ 1 ≤ u.cfgR.toNat ∧
       u.cfgR.toNat ≤ u.cap.rMax ∧ 32 * u.cfgR.toNat * u.cfgN.toNat ≤ u.cap.vWords) := by decide

/-- The last entry that fits: `i = N - 1` of `N = 1024`, `r = 8`. -/
theorem witness_RmFillStoresTheGroup :
    let u := { at2 .rmFill .romix with cfgN := 1024#32, cfgR := 8#32, i := 1023#32 }
    u.cfgR.toNat ≤ u.cap.rMax ∧ u.i.toNat * 32 * u.cfgR.toNat + 32 * u.cfgR.toNat ≤ u.cap.vWords := by decide

theorem witness_RmIdxReducesTheWord :
    let u := { at2 .rmIdx .romix with cfgN := 0x80000000#32 }
    1 ≤ u.cfgR.toNat ∧ u.cfgR.toNat ≤ u.cap.rMax ∧ validN u.cfgN = true := by decide

theorem witness_RmXorvFoldsTheEntry :
    let u := { at2 .rmXorv .romix with cfgN := 1024#32, cfgR := 8#32, j := 1023#32 }
    u.cfgR.toNat ≤ u.cap.rMax ∧ u.j.toNat * 32 * u.cfgR.toNat + 32 * u.cfgR.toNat ≤ u.cap.vWords := by decide

/-- For `MX.IN` and `MX.OUT`. -/
theorem witness_MxInLoadsBlockZero_MxOutReturnsBlockZero :
    1 ≤ ({ at2 .mxIn .mix with cap := { rMax := 1, vWords := 0 } } : State).cap.rMax := by decide

theorem witness_MixCommandRun :
    busy (at2 .scArx .mix) = true ∧
    (let u := at2 .error .romix
     busy u = false ∧ u.inputs = [] ∧ 1 ≤ u.cap.rMax) := by decide

theorem witness_BlockmixCommandRun :
    busy (at2 .scArx .blockmix) = true ∧
    (let u := { at2 .idle .none with cfgR := 0#32 }
     busy u = false ∧ u.inputs = [] ∧ u.cap.rMax ≤ 480 ∧ u.cfgR.toNat = 0) ∧
    (let u := { at2 .idle .none with cfgR := 9#32 }
     busy u = false ∧ u.inputs = [] ∧ u.cap.rMax ≤ 480 ∧ u.cap.rMax < u.cfgR.toNat) ∧
    (let u := { at2 .done .mix with cfgR := 8#32 }
     busy u = false ∧ u.inputs = [] ∧ u.cap.rMax ≤ 480 ∧ 1 ≤ u.cfgR.toNat ∧ u.cfgR.toNat ≤ u.cap.rMax) := by decide

theorem witness_RomixRun :
    (let u := { at2 .check .romix with cfgN := 1024#32, cfgR := 8#32 }
     u.st = .check ∧ u.op = .romix ∧ u.inputs = [] ∧ u.cap.rMax ≤ 480 ∧ validN u.cfgN = true ∧ 1 ≤ u.cfgR.toNat ∧
       u.cfgR.toNat ≤ u.cap.rMax ∧ 32 * u.cfgR.toNat * u.cfgN.toNat ≤ u.cap.vWords ∧ 1023 < u.cfgN.toNat) := by decide

theorem witness_RomixCommandRun :
    busy (at2 .scArx .romix) = true ∧
    (let u := { at2 .idle .none with cfgN := 100#32 }
     busy u = false ∧ u.inputs = [] ∧ u.cap.rMax ≤ 480 ∧ validN u.cfgN = false) ∧
    (let u := { at2 .idle .none with cfgN := 2048#32, cfgR := 8#32 }
     busy u = false ∧ u.inputs = [] ∧ u.cap.rMax ≤ 480 ∧ validN u.cfgN = true ∧ 1 ≤ u.cfgR.toNat ∧
       u.cap.vWords < 32 * u.cfgR.toNat * u.cfgN.toNat) ∧
    (let u := { at2 .idle .none with cfgR := 9#32 }
     busy u = false ∧ validN u.cfgN = true ∧ 1 ≤ u.cfgR.toNat ∧ u.cap.rMax < u.cfgR.toNat) ∧
    (let u := { at2 .idle .none with cfgN := 1024#32, cfgR := 8#32 }
     busy u = false ∧ u.inputs = [] ∧ u.cap.rMax ≤ 480 ∧ validN u.cfgN = true ∧ 1 ≤ u.cfgR.toNat ∧
       u.cfgR.toNat ≤ u.cap.rMax ∧ 32 * u.cfgR.toNat * u.cfgN.toNat ≤ u.cap.vWords) := by decide

/-- With `witness_Inv_rmFill` and `witness_Inv_rmXorv`. -/
theorem witness_TableAddressesInBounds :
    ({ at2 .rmFill .romix with i := 1#32 } : State).st = .rmFill ∧
    ({ at2 .rmXorv .romix with ph := .mix, j := 1#32 } : State).st = .rmXorv := by decide

/-- The check of a `ROMIX` with `N = 100` (P4), and the command before it. -/
theorem witness_ErrorEntry :
    exec .romix { at2 .idle .none with cfgN := 100#32 } =
      .next { at2 .check .romix with cfgN := 100#32, resp := some .ok } ∧
    exec .sqCheck { at2 .check .romix with cfgN := 100#32, resp := some .ok } =
      .next { at2 .error .romix with cfgN := 100#32, ec := 1#4, resp := some .ok } ∧
    busy { at2 .idle .none with cfgN := 100#32 } = false := ⟨rfl, rfl, rfl⟩

/-- With `witness_ErrorEntry`: a state in `ERROR`, an offset other than `CMD`'s, and the check repeated. -/
theorem witness_LeavingError :
    (at2 .error .romix).st = .error ∧ (0x1000#16 : BitVec 16) ≠ 0x0000#16 ∧
    exec .sqCheck { at2 .check .romix with cfgN := 100#32, ec := 0#4 } =
      .next { at2 .error .romix with cfgN := 100#32, ec := 1#4 } := ⟨rfl, by decide, rfl⟩

/-- The first value outside, for each clause. -/
theorem witness_AccessesThatDoNotExistStop :
    ({ at2 .bmInit .romix with cfgR := 0#32 } : State).cfgR.toNat = 0 ∧
    (let u := { at2 .bmInit .romix with cfgR := 9#32 }
     u.cap.rMax < u.cfgR.toNat) ∧
    (let u := { at2 .bmXor .romix with k := 16#10 }
     2 * u.cap.rMax ≤ u.k.toNat) ∧
    (let u := { at2 .bmStore .romix with cfgR := 8#32, k := 17#10 }
     2 * u.cap.rMax ≤ pos u.cfgR.toNat u.k.toNat) ∧
    ({ at2 .mxIn .mix with cap := { rMax := 0, vWords := 0 } } : State).cap.rMax = 0 ∧
    (let u := { at2 .rmFill .romix with cfgR := 8#32, i := 1024#32 }
     u.cfgR.toNat ≤ u.cap.rMax ∧ u.cap.vWords < u.i.toNat * 32 * u.cfgR.toNat + 32 * u.cfgR.toNat) ∧
    (let u := { at2 .rmXorv .romix with cfgR := 8#32, j := 1024#32 }
     u.cfgR.toNat ≤ u.cap.rMax ∧ u.cap.vWords < u.j.toNat * 32 * u.cfgR.toNat + 32 * u.cfgR.toNat) := by decide

/-- One offset for each clause, at the edges of the window. -/
theorem witness_HwrWrites :
    (isCommandWrite 0x0000#16 5#32 = false ∧ (4#32 : Word).toNat = 4) ∧
    ((0x1001#16).toNat % 4 ≠ 0) ∧ busy (at2 .check .mix) = true ∧ busy State.reset = false ∧
    ((0x0008#16).toNat % 4 = 0 ∧ (0x0008#16).toNat ≠ 4 ∧ (0x0008#16).toNat ≠ 0) ∧
    ((0x000C#16).toNat % 4 = 0 ∧ (0x000C#16).toNat = 0x000C) ∧
    (0x1000 ≤ (0x13FC#16).toNat ∧ (0x13FC#16).toNat < 0x1000 + 128 * State.reset.cap.rMax ∧ (0x13FC#16).toNat % 4 = 0) ∧
    (0x0010 ≤ (0x0FFC#16).toNat ∧ (0x0FFC#16).toNat < 0x1000) ∧
    0x1000 + 128 * State.reset.cap.rMax ≤ (0x1400#16).toNat := by decide

theorem witness_StartCommands :
    (State.reset.st = .idle ∨ State.reset.st = .done ∨ State.reset.st = .error) ∧
    ¬((at2 .check .mix).st = .idle ∨ (at2 .check .mix).st = .done ∨ (at2 .check .mix).st = .error) := by decide

theorem witness_AbortReturnsToIdle : busy (at2 .error .mix) = false ∧ busy (at2 .rmXorv .romix) = true := by decide

theorem witness_BusyRefusals :
    busy (at2 .scArx .mix) = true ∧ ((0x0008#16).toNat ≠ 0x0000 ∧ (0x0008#16).toNat ≠ 0x0004) ∧
    ¬((0x0000#16).toNat = 0x0000 ∧ (1#32 : Word).toNat = 4) ∧
    ¬((0x0008#16).toNat = 0x0000 ∧ (4#32 : Word).toNat = 4) := by decide

theorem witness_RefusalsComplete :
    exec (.hrd 0x0002#16) State.reset = .next { State.reset with resp := some .err } ∧
    exec (.hrd 0x000C#16) State.reset = .next { State.reset with resp := some (.data 0#32) } ∧
    exec (.hwr 0x0004#16 0#32) State.reset = .next { State.reset with resp := some .err } ∧
    exec (.hwr 0x0008#16 7#32) State.reset = .next { State.reset with cfgN := 7#32, resp := some .ok } :=
  ⟨rfl, rfl, rfl, rfl⟩

theorem witness_Inv_busy : Inv (at2 .scArx .romix) := ⟨by decide, by decide, by decide, by decide⟩

theorem witness_Inv_done : Inv (at2 .done .mix) := ⟨by decide, by decide, by decide, by decide⟩

theorem witness_Inv_error_1 : Inv { at2 .error .romix with ec := 1#4 } := ⟨by decide, by decide, by decide, by decide⟩

theorem witness_Inv_error_2 : Inv { at2 .error .romix with ec := 2#4 } := ⟨by decide, by decide, by decide, by decide⟩

theorem witness_Inv_rmFill : Inv { at2 .rmFill .romix with i := 1#32 } := ⟨by decide, by decide, by decide, by decide⟩

theorem witness_Inv_rmXorv : Inv { at2 .rmXorv .romix with ph := .mix, j := 1#32 } :=
  ⟨by decide, by decide, by decide, by decide⟩

/-- With `witness_Inv_busy` to `witness_Inv_error_2`: the clauses of the five values. -/
theorem witness_StatusHasFiveValues :
    State.reset.st = .idle ∧ busy (at2 .scArx .romix) = true ∧ (at2 .done .mix).st = .done ∧
    ({ at2 .error .romix with ec := 1#4 } : State).st = .error := by decide

theorem witness_StateCodes :
    State.reset.inputs = [] ∧ State.reset.st = .idle ∧ (at2 .done .mix).st = .done ∧ (at2 .error .mix).st = .error := by
  decide

theorem witness_StepRunsTheSequencer :
    decode (.st4 (stCode (at2 .check .mix).st)) = .ok .sqCheck ∧ (at2 .check .mix).inputs = [] ∧
    ({ at2 .check .mix with inputs := [.wait] } : State).inputs = .wait :: [] := by decide

theorem witness_StepRunsTheTransaction :
    ({ State.reset with inputs := [.txn 0x0000400000000#49] } : State).inputs = .txn 0x0000400000000#49 :: [] ∧
    decode (.ht49 0x0000400000000#49) = .ok (.hrd 0x0004#16) ∧
    ((0x0000400000001#49).getLsbD 48 = false ∧ (0x0000400000001#49).extractLsb' 0 32 ≠ 0#32) := by decide

theorem witness_WidthAlignmentAndMap :
    ({ State.reset with inputs := [.otherWidth] } : State).inputs = .otherWidth :: [] ∧ (0xFFFF#16).toNat % 4 ≠ 0 ∧
    ¬((0x0010#16).toNat < 0x0010 ∨
      (0x1000 ≤ (0x0010#16).toNat ∧ (0x0010#16).toNat < 0x1000 + 128 * State.reset.cap.rMax)) ∧
    ¬((0x1400#16).toNat < 0x0010 ∨
      (0x1000 ≤ (0x1400#16).toNat ∧ (0x1400#16).toNat < 0x1000 + 128 * State.reset.cap.rMax)) := by decide

/-- A read and a write, each answered. -/
theorem witness_EveryTransactionIsAnswered :
    ({ State.reset with inputs := [.txn 0x0000400000000#49] } : State).inputs = .txn 0x0000400000000#49 :: [] ∧
    (0x0000400000000#49).getLsbD 48 = false ∧ (0x1000400000000#49).getLsbD 48 = true := by decide

/-- A row for each state; the conditions of the rows of one state at their edges. -/
theorem witness_TransitionTable :
    busy State.reset = false ∧ (at2 .check .romix).inputs = [] ∧
    nextIs (step (at2 .check .romix)) (fun u => u.st == .rmFill) = true ∧
    nextIs (step { at2 .check .romix with cfgR := 0#32 }) (fun u => u.st == .error) = true ∧
    nextIs (step { at2 .scArx .romix with s := 30#5 }) (fun u => u.s == 31#5) = true ∧
    nextIs (step { at2 .scArx .romix with s := 31#5, d := 2#2 }) (fun u => u.s == 0#5 && u.d == 3#2) = true ∧
    nextIs (step { at2 .scArx .romix with s := 31#5, d := 3#2 }) (fun u => u.st == .scFfwd) = true ∧
    nextIs (step { at2 .bmStore .romix with k := 0#10 }) (fun u => u.k == 1#10 && u.st == .bmXor) = true ∧
    nextIs (step { at2 .bmStore .romix with k := 1#10 }) (fun u => u.st == .bmCommit) = true := by decide

/-- Two units that differ in `x`, `T`, `V`, a counter and `G` above the group. -/
theorem witness_RomixForgetsThePast :
    let p := at2 .idle .none
    let q := { at2 .done .mix with x := iota, t := iota, k := 7#10, v := storeOf [9#32], g := ({ epoch := 0, cells := [] } : Store).write 32 5#32 }
    busy p = false ∧ busy q = false ∧ p.inputs = [] ∧ q.inputs = [] ∧ p.cap = q.cap ∧ p.cap.rMax ≤ 480 ∧
      p.cfgN = q.cfgN ∧ p.cfgR = q.cfgR ∧ validN p.cfgN = true ∧ 1 ≤ p.cfgR.toNat ∧ p.cfgR.toNat ≤ p.cap.rMax ∧
      32 * p.cfgR.toNat * p.cfgN.toNat ≤ p.cap.vWords ∧
      ∀ w : Nat, w < 32 → p.g.read w = q.g.read w := by decide

/-- Both causes of a change. -/
theorem witness_ConfigurationSurvives :
    nextIs (step { at2 .done .mix with inputs := [.reset] }) (fun u => u.cfgN != 2#32 && u.cfgR != 1#32) = true ∧
    nextIs (step { at2 .done .mix with inputs := [.txn 0x1000800000005#49] }) (fun u => u.cfgN == 5#32) = true ∧
    nextIs (step { at2 .done .mix with inputs := [.txn 0x1000C00000005#49] }) (fun u => u.cfgR == 5#32) = true ∧
    packRecord true 0x0008#16 5#32 = 0x1000800000005#49 := by decide

theorem witness_ResetValues :
    ({ at2 .scArx .romix with inputs := [.reset, .wait] } : State).inputs = .reset :: [.wait] := by decide

/-- For `InvariantKept` (with `witness_Inv_busy`) and `CapacitiesAreFixed`: a step of a busy unit has a next state. -/
theorem witness_InvariantKept_CapacitiesAreFixed :
    step (at2 .scLoad .romix) = .next { at2 .scArx .romix with x := (at2 .scLoad .romix).t } ∧
    exec .scLoad (at2 .scLoad .romix) = .next { at2 .scArx .romix with x := (at2 .scLoad .romix).t } := ⟨rfl, rfl⟩

/-- For `InvariantNeverStops`. -/
theorem witness_InvariantNeverStops : Inv { at2 .bmStore .romix with k := 1#10 } :=
  ⟨by decide, by decide, by decide, by decide⟩

/-- For `WritersOfEachRegister`: a step that is no `ABORT` of a busy unit, and the clauses: each register written by one of
its writers. -/
theorem witness_WritersOfEachRegister :
    ¬(busy (at2 .scLoad .mix) = true ∧ (Instr.scLoad = .abort ∨ Instr.scLoad = .hwr 0x0000#16 4#32)) ∧
    nextIs (exec .scLoad { at2 .scLoad .mix with t := iota, d := 1#2, s := 1#5 })
      (fun u => u.x != zeroBlock && u.d != 1#2 && u.s != 1#5) = true ∧
    nextIs (exec .scFfwd { at2 .scFfwd .mix with x := iota }) (fun u => u.t != zeroBlock) = true ∧
    nextIs (exec (.hwr 0x1000#16 7#32) State.reset) (fun u => u.g != State.reset.g) = true ∧
    nextIs (exec .bmStore { at2 .bmStore .romix with t := iota })
      (fun u => u.y != State.reset.y && u.k != 0#10) = true ∧
    nextIs (exec .bmCommit { at2 .bmCommit .romix with i := 1#32 }) (fun u => u.ph != .fill && u.i != 1#32) = true ∧
    nextIs (exec .rmIdx { at2 .rmIdx .romix with j := 1#32 }) (fun u => u.j != 1#32) = true ∧
    nextIs (exec (.hwr 0x000C#16 7#32) State.reset) (fun u => u.cfgR != 0#32) = true ∧
    nextIs (exec .mix { at2 .error .romix with ec := 1#4 }) (fun u => u.ec != 1#4 && u.op != .romix) = true := by decide

/-- Two states that differ in data and agree in control. -/
theorem witness_ControlIgnoresData :
    SameControl (at2 .scLoad .romix) { at2 .scLoad .romix with t := iota, j := 9#32 } ∧ (at2 .scLoad .romix).inputs = [] ∧
    step (at2 .scLoad .romix) = .next { at2 .scArx .romix with x := zeroBlock } ∧
    step { at2 .scLoad .romix with t := iota, j := 9#32 } =
      .next { at2 .scArx .romix with x := iota, t := iota, j := 9#32 } :=
  ⟨⟨rfl, rfl, rfl, rfl, rfl, rfl, rfl, rfl, rfl, rfl, rfl⟩, rfl, rfl, rfl⟩

/-- A host's write to `CFG_N`, a start code, and a transaction of another width, while busy. -/
theorem witness_HostCannotDisturbABusyUnit :
    (busy { at2 .scArx .romix with inputs := [.txn 0x1000800000005#49] } = true ∧
      Input.txn 0x1000800000005#49 ≠ .wait ∧ Input.txn 0x1000800000005#49 ≠ .reset ∧
      (decode (.ht49 0x1000800000005#49)).toOption = some (.hwr 0x0008#16 5#32) ∧
      nextIs (step { at2 .scArx .romix with inputs := [.txn 0x1000800000005#49] })
        (fun u => busy u && u.cfgN == 2#32 && u.resp == some .err) = true) ∧
    ((decode (.ht49 0x1000000000001#49)).toOption = some .mix ∧
      nextIs (step { at2 .scArx .romix with inputs := [.txn 0x1000000000001#49] })
        (fun u => busy u && u.op == .romix && u.resp == some .err) = true) ∧
    (Input.otherWidth ≠ .wait ∧ Input.otherWidth ≠ .reset ∧
      nextIs (step { at2 .scArx .romix with inputs := [.otherWidth] }) (fun u => busy u) = true) := by decide

end Sys2Proof.Tests
end

section
/-! SUPPORT. The Word primitives on natural numbers and on bits (00_scope R12). -/

namespace Sys2Proof.Machine

open Sys2Proof

/-- R12: the carry out of bit 31 is dropped. -/
theorem toNat_add32 (a b : Word) : (add32 a b).toNat = (a.toNat + b.toNat) % 2 ^ 32 :=
  BitVec.toNat_add a b

@[simp] theorem getLsbD_xor32 (a b : Word) (n : Nat) :
    (xor32 a b).getLsbD n = (a.getLsbD n != b.getLsbD n) :=
  BitVec.getLsbD_xor

@[simp] theorem getLsbD_and32 (a b : Word) (n : Nat) :
    (and32 a b).getLsbD n = (a.getLsbD n && b.getLsbD n) :=
  BitVec.getLsbD_and

/-- A left shift of a Word keeps its low `32 - n` bits, moved up by `n` places. -/
theorem mul_two_pow_mod_word (x n : Nat) (hn : n ≤ 32) :
    x * 2 ^ n % 2 ^ 32 = 2 ^ n * (x % 2 ^ (32 - n)) := by
  rw [← pow_mul_pow_sub 2 hn, Nat.mul_comm x, Nat.mul_mod_mul_left]

/-- The bits that a rotation by `n` brings in at the bottom fit below bit `n`. -/
theorem toNat_div_two_pow_lt (v : Word) (n : Nat) (hn : n ≤ 32) : v.toNat / 2 ^ (32 - n) < 2 ^ n :=
  Nat.div_lt_of_lt_mul (by rw [pow_sub_mul_pow 2 hn]; exact v.isLt)

/-- R12: the shifted bits and the re-entering bits do not overlap, so their union is their sum. -/
theorem toNat_rotl32 (v : Word) (n : Nat) (hn : n < 32) :
    (rotl32 v n).toNat = v.toNat * 2 ^ n % 2 ^ 32 + v.toNat / 2 ^ (32 - n) := by
  have union : (rotl32 v n).toNat = v.toNat * 2 ^ n % 2 ^ 32 ||| v.toNat / 2 ^ (32 - n) := by
    rw [rotl32, BitVec.toNat_rotateLeft, Nat.mod_eq_of_lt hn, Nat.shiftLeft_eq, Nat.shiftRight_eq_div_pow]
  rw [union, mul_two_pow_mod_word _ n hn.le]
  exact (Nat.two_pow_add_eq_or_of_lt (toNat_div_two_pow_lt v n hn.le) _).symm

/-- Settles O6, one primitive at a time. -/
theorem wordPrimitives : Obligations.WordPrimitives :=
  ⟨toNat_add32, fun v n _ hn => toNat_rotl32 v n (Nat.lt_succ_of_le hn), getLsbD_xor32, getLsbD_and32⟩

end Sys2Proof.Machine
end

section
/-! SUPPORT. The inversion of each guarded micro-operation: what a next state says of the accesses and of the registers. -/

namespace Sys2Proof.Machine

open Sys2Proof

theorem eq_of_next {s t : State} (h : (.next s : Result) = .next t) : t = s :=
  (Host.Outcome.next.inj h).symm

theorem execMxIn_next {m t : State} (h : execMxIn m = .next t) :
    16 ≤ bufferWords m ∧ t = { m with t := m.g.readBlock 0, st := .scLoad } :=
  (withBuffer_next h).imp_right eq_of_next

theorem execMxOut_next {m t : State} (h : execMxOut m = .next t) :
    16 ≤ bufferWords m ∧ t = { m with g := m.g.writeWords 0 m.t.toList, st := .done } :=
  (withBuffer_next h).imp_right eq_of_next

theorem execBmInit_next {m t : State} (h : execBmInit m = .next t) :
    m.cfgR.toNat ≠ 0 ∧ lastBlock m.cfgR.toNat + 16 ≤ bufferWords m ∧
      t = { m with t := m.g.readBlock (lastBlock m.cfgR.toNat), k := 0#10, st := .bmXor } :=
  (withGroup_next h).imp_right fun h => (withBuffer_next h).imp_right eq_of_next

theorem execBmXor_next {m t : State} (h : execBmXor m = .next t) :
    16 * m.k.toNat + 16 ≤ bufferWords m ∧
      t = { m with t := zipBlock xor32 m.t (m.g.readBlock (16 * m.k.toNat)), st := .scLoad } :=
  (withBuffer_next h).imp_right eq_of_next

/-- The two ways on from `BM.STORE` (R173). -/
theorem execBmStore_next {m t : State} (h : execBmStore m = .next t) :
    16 * pos m.cfgR.toNat m.k.toNat + 16 ≤ bufferWords m ∧
      ((m.k.toNat + 1 < 2 * m.cfgR.toNat ∧
          t = { m with y := m.y.writeWords (16 * pos m.cfgR.toNat m.k.toNat) m.t.toList, k := m.k + 1#10, st := .bmXor }) ∨
        (¬ m.k.toNat + 1 < 2 * m.cfgR.toNat ∧
          t = { m with y := m.y.writeWords (16 * pos m.cfgR.toNat m.k.toNat) m.t.toList, st := .bmCommit })) := by
  obtain ⟨hb, hn⟩ := withBuffer_next h
  refine ⟨hb, ?_⟩
  by_cases hk : m.k.toNat + 1 < 2 * m.cfgR.toNat
  · rw [if_pos hk] at hn
    exact .inl ⟨hk, eq_of_next hn⟩
  · rw [if_neg hk] at hn
    exact .inr ⟨hk, eq_of_next hn⟩

theorem execBmCommit_next {m t : State} (h : execBmCommit m = .next t) :
    32 * m.cfgR.toNat ≤ bufferWords m ∧ t = afterCommit (commitGroup m) :=
  (withBuffer_next h).imp_right eq_of_next

theorem execRmFill_next {m t : State} (h : execRmFill m = .next t) :
    32 * m.cfgR.toNat ≤ bufferWords m ∧ entryBase m.cfgR.toNat m.i.toNat + 32 * m.cfgR.toNat ≤ m.cap.vWords ∧
      t = { m with
        v := m.v.writeWords (entryBase m.cfgR.toNat m.i.toNat) (m.g.readWords 0 (32 * m.cfgR.toNat)), st := .bmInit } :=
  (withBuffer_next h).imp_right fun h => (withTable_next h).imp_right eq_of_next

theorem execRmIdx_next {m t : State} (h : execRmIdx m = .next t) :
    m.cfgR.toNat ≠ 0 ∧ lastBlock m.cfgR.toNat + 1 ≤ bufferWords m ∧
      t = { m with j := and32 (m.g.read (lastBlock m.cfgR.toNat)) (m.cfgN - 1#32), st := .rmXorv } :=
  (withGroup_next h).imp_right fun h => (withBuffer_next h).imp_right eq_of_next

theorem execRmXorv_next {m t : State} (h : execRmXorv m = .next t) :
    32 * m.cfgR.toNat ≤ bufferWords m ∧ entryBase m.cfgR.toNat m.j.toNat + 32 * m.cfgR.toNat ≤ m.cap.vWords ∧
      t = { m with
        g := m.g.writeWords 0 (List.zipWith xor32 (m.g.readWords 0 (32 * m.cfgR.toNat))
          (m.v.readWords (entryBase m.cfgR.toNat m.j.toNat) (32 * m.cfgR.toNat))),
        st := .bmInit } :=
  (withBuffer_next h).imp_right fun h => (withTable_next h).imp_right eq_of_next

/-- A check that passes starts the operation: only `ph`, `i` and `st` can change (R190). -/
theorem afterCheck_frame (m : State) :
    afterCheck m = { m with ph := (afterCheck m).ph, i := (afterCheck m).i, st := (afterCheck m).st } := by
  unfold afterCheck
  cases m.op <;> rfl

/-- What follows a commit is chosen by `ph`, `i` and `st`: nothing else can change (R175). -/
theorem afterCommit_frame (m : State) :
    afterCommit m = { m with ph := (afterCommit m).ph, i := (afterCommit m).i, st := (afterCommit m).st } := by
  obtain ⟨-, h⟩ | ⟨-, -, -, h⟩ | ⟨-, -, -, h⟩ | ⟨-, -, -, h⟩ | ⟨-, -, -, h⟩ := afterCommit_cases m <;> rw [h]

/-- An ARX step changes `x`, `d`, `s` and `st` at most (R142). -/
theorem arxStep_frame (f : ArxOp) (m : State) :
    ∃ (x : Block) (d : BitVec 2) (s : BitVec 5) (st : St),
      arxStep f m = .next { m with x := x, d := d, s := s, st := st } := by
  obtain ⟨-, h⟩ | ⟨-, -, h⟩ | ⟨-, -, h⟩ := arxStep_cases f m <;> exact ⟨_, _, _, _, h⟩

/-- The offsets of the three writable control registers (20_memory R70). -/
theorem hostReg_offset {cap : Config.Capacity} {a : BitVec 16} {reg : HostReg} (h : hostReg cap a = reg) :
    (reg = .cmd → a = 0x0000#16) ∧ (reg = .cfgN → a = 0x0008#16) ∧ (reg = .cfgR → a = 0x000C#16) := by
  subst h
  simp only [hostReg]
  (repeat' split) <;> simp only [reduceCtorEq, false_imp_iff, true_imp_iff, and_true, true_and] <;> bv_omega

end Sys2Proof.Machine
end

section
/-! SUPPORT. The "written by" column of the state table (10_state R20), read by instruction: which registers each may
write, and that `exec` keeps every other register. -/

namespace Sys2Proof.Machine

open Sys2Proof

/-- The instructions of the StreamCore datapath before the feed-forward: `SC.LOAD`, `SC.ARX` and its 32 operand forms. -/
def arxInstrs : List Instr := [.scLoad, .scArx] ++ schedRows.map SchedRow.form

/-- `i` is a write to `CMD`: one of the four commands, or the plain write that a code outside 1 to 4 decodes to (R105,
R106). -/
def IsCommand (i : Instr) : Prop :=
  i ∈ [Instr.mix, .blockmix, .romix, .abort] ∨ ∃ v, i = .hwr 0x0000#16 v

/-- `Effect m i t`: from `m`, instruction `i` may lead to `t`. The values written are left open; every register whose row
of R20 does not name `i` is that of `m`. Any instruction may keep all of them (`rest`, `answer`). -/
inductive Effect (m : State) : Instr → State → Prop where
  | rest (i : Instr) : Effect m i m
  | answer (i : Instr) (a : Response) : Effect m i (respond a m)
  | command (i : Instr) (hi : IsCommand i) (op : Op) (ec : BitVec 4) (st : St) :
      Effect m i (respond .ok { m with op := op, ec := ec, st := st })
  /-- An `ABORT` of a busy unit makes the data registers unspecified (R231). -/
  | abortBusy (i : Instr) (hb : busy m = true) (hi : i = .abort ∨ i = .hwr 0x0000#16 4#32) :
      Effect m i (respond .ok { forget m with op := .none, ec := 0#4, st := .idle })
  | writeN (v : Word) : Effect m (.hwr 0x0008#16 v) (respond .ok { m with cfgN := v })
  | writeR (v : Word) : Effect m (.hwr 0x000C#16 v) (respond .ok { m with cfgR := v })
  | writeG (a : BitVec 16) (v : Word) (g : Store) : Effect m (.hwr a v) (respond .ok { m with g := g })
  | checkFails (e : ErrCode) : Effect m .sqCheck (raiseError e m)
  | checkPasses (ph : Pass) (i : Word) (st : St) : Effect m .sqCheck { m with ph := ph, i := i, st := st }
  | mxIn (t : Block) (st : St) : Effect m .mxIn { m with t := t, st := st }
  | mxOut (g : Store) (st : St) : Effect m .mxOut { m with g := g, st := st }
  | bmInit (t : Block) (k : BitVec 10) (st : St) : Effect m .bmInit { m with t := t, k := k, st := st }
  | bmXor (t : Block) (st : St) : Effect m .bmXor { m with t := t, st := st }
  | arx (i : Instr) (hi : i ∈ arxInstrs) (x : Block) (d : BitVec 2) (s : BitVec 5) (st : St) :
      Effect m i { m with x := x, d := d, s := s, st := st }
  | scFfwd (t : Block) (st : St) : Effect m .scFfwd { m with t := t, st := st }
  | bmStore (y : Store) (k : BitVec 10) (st : St) : Effect m .bmStore { m with y := y, k := k, st := st }
  | bmCommit (g : Store) (ph : Pass) (i : Word) (st : St) :
      Effect m .bmCommit { m with g := g, ph := ph, i := i, st := st }
  | rmFill (v : Store) (st : St) : Effect m .rmFill { m with v := v, st := st }
  | rmIdx (j : Word) (st : St) : Effect m .rmIdx { m with j := j, st := st }
  | rmXorv (g : Store) (st : St) : Effect m .rmXorv { m with g := g, st := st }

theorem startCommand_effect {i : Instr} (hi : IsCommand i) (op : Op) (m : State) : Effect m i (startCommand op m) := by
  obtain ⟨-, h⟩ | ⟨-, h⟩ := startCommand_cases op m
  · exact h ▸ .answer i .err
  · exact h ▸ .command i hi op 0#4 .check

theorem abortCommand_effect {i : Instr} (hi : i = .abort ∨ i = .hwr 0x0000#16 4#32) (m : State) :
    Effect m i (abortCommand m) := by
  have hc : IsCommand i := hi.imp (fun h => by simp [h]) (fun h => ⟨_, h⟩)
  obtain ⟨hb, h⟩ | ⟨-, h⟩ := abortCommand_cases m
  · exact h ▸ .abortBusy i hb hi
  · exact h ▸ .command i hc .none 0#4 .idle

theorem command_effect (v : Word) (m : State) : Effect m (.hwr 0x0000#16 v) (command v m) := by
  have hc : IsCommand (.hwr 0x0000#16 v) := .inr ⟨v, rfl⟩
  obtain ⟨rfl, h⟩ | ⟨-, h⟩ | ⟨-, h⟩ | ⟨-, h⟩ | ⟨-, -, -, -, h⟩ := command_cases v m <;> rw [h]
  · exact abortCommand_effect (.inr rfl) m
  · exact startCommand_effect hc .mix m
  · exact startCommand_effect hc .blockmix m
  · exact startCommand_effect hc .romix m
  · exact .answer _ .err

theorem hostWrite_effect (a : BitVec 16) (v : Word) (m : State) : Effect m (.hwr a v) (hostWrite a v m) := by
  obtain h | ⟨hr, h⟩ | ⟨-, hr, h⟩ | ⟨-, hr, h⟩ | ⟨w, -, -, h⟩ := hostWrite_cases a v m <;> rw [h]
  · exact .answer _ .err
  · obtain rfl := (hostReg_offset hr).1 rfl
    exact command_effect v m
  · obtain rfl := (hostReg_offset hr).2.1 rfl
    exact .writeN v
  · obtain rfl := (hostReg_offset hr).2.2 rfl
    exact .writeR v
  · exact .writeG a v _

theorem arxStep_effect {i : Instr} (hi : i ∈ arxInstrs) (f : ArxOp) {m t : State} (h : arxStep f m = .next t) :
    Effect m i t := by
  obtain ⟨x, d, s, st, ht⟩ := arxStep_frame f m
  obtain rfl := eq_of_next (ht.symm.trans h)
  exact .arx i hi x d s st

/-- 10_state R20: no instruction writes a register whose row does not name it. -/
theorem exec_effect {i : Instr} {m t : State} (h : exec i m = .next t) : Effect m i t := by
  cases i with
  | hrd a =>
    obtain ⟨r, hr⟩ := hostRead_cases a m
    obtain rfl := eq_of_next h
    exact hr ▸ .answer _ r
  | hwr a v => exact eq_of_next h ▸ hostWrite_effect a v m
  | mix => exact eq_of_next h ▸ startCommand_effect (.inl (by decide)) .mix m
  | blockmix => exact eq_of_next h ▸ startCommand_effect (.inl (by decide)) .blockmix m
  | romix => exact eq_of_next h ▸ startCommand_effect (.inl (by decide)) .romix m
  | abort => exact eq_of_next h ▸ abortCommand_effect (.inl rfl) m
  | idle | done | error => exact eq_of_next h ▸ .rest _
  | sqCheck =>
    obtain ⟨e, -, hc⟩ | ⟨-, hc⟩ := execSqCheck_cases m
    · exact eq_of_next (hc.symm.trans h) ▸ .checkFails e
    · rw [eq_of_next (hc.symm.trans h), afterCheck_frame]
      exact .checkPasses _ _ _
  | mxIn => exact (execMxIn_next h).2 ▸ .mxIn _ _
  | mxOut => exact (execMxOut_next h).2 ▸ .mxOut _ _
  | bmInit =>
    obtain ⟨-, -, rfl⟩ := execBmInit_next h
    exact .bmInit _ _ _
  | bmXor => exact (execBmXor_next h).2 ▸ .bmXor _ _
  | scLoad => exact eq_of_next h ▸ .arx _ (by decide) _ _ _ _
  | scFfwd => exact eq_of_next h ▸ .scFfwd _ _
  | bmStore =>
    obtain ⟨-, ⟨-, rfl⟩ | ⟨-, rfl⟩⟩ := execBmStore_next h
    · exact .bmStore _ _ _
    · exact .bmStore _ _ _
  | bmCommit =>
    rw [(execBmCommit_next h).2, afterCommit_frame]
    exact .bmCommit _ _ _ _
  | rmFill =>
    obtain ⟨-, -, rfl⟩ := execRmFill_next h
    exact .rmFill _ _
  | rmIdx =>
    obtain ⟨-, -, rfl⟩ := execRmIdx_next h
    exact .rmIdx _ _
  | rmXorv =>
    obtain ⟨-, -, rfl⟩ := execRmXorv_next h
    exact .rmXorv _ _
  | scArx => exact arxStep_effect (by decide) (schedOp m.s) h
  | _ => exact arxStep_effect (by decide) _ h

/-- Settles O58: a kind of step that keeps a register makes the register's clause empty, and the others name a writer. -/
theorem writersOfEachRegister : Obligations.WritersOfEachRegister := by
  intro i s t h hAbort
  cases exec_effect h with
  | abortBusy _ hb hi => exact absurd ⟨hb, hi⟩ hAbort
  | command _ hi =>
    simp only [IsCommand] at hi
    simp only [ne_eq, respond, not_true_eq_false, false_imp_iff, true_and]
    exact ⟨fun _ => hi, fun _ => hi.imp_left (List.mem_cons_of_mem _)⟩
  | arx _ hi =>
    simp only [arxInstrs] at hi
    simp only [ne_eq, not_true_eq_false, false_imp_iff, and_true, hi, implies_true]
  | _ => simp

/-- The capacities are in no row of R20. -/
theorem Effect.cap_eq {m t : State} {i : Instr} (h : Effect m i t) : t.cap = m.cap := by
  cases h <;> rfl

/-- The kinds of step (00_scope R17): the sequencer moves, a record is executed, a transaction is refused undecoded, or the
reset input is asserted. -/
theorem step_next {m t : State} (h : step m = .next t) :
    (∃ rest, (m.inputs = [] ∧ rest = [] ∨ m.inputs = .wait :: rest) ∧
      exec (sequencerInstr m) { m with inputs := rest } = .next t) ∨
    (∃ w rest i, m.inputs = .txn w :: rest ∧ decode (.ht49 w) = .ok i ∧ exec i { m with inputs := rest } = .next t) ∨
    (∃ e rest, m.inputs = e :: rest ∧ (e = .otherWidth ∨ ∃ w r, e = .txn w ∧ decode (.ht49 w) = .error r) ∧
      t = respond .err { m with inputs := rest }) ∨
    (∃ rest, m.inputs = .reset :: rest ∧ t = resetUnit { m with inputs := rest }) := by
  cases hm : m.inputs with
  | nil =>
    have hself : { m with inputs := [] } = m := by rw [← hm]
    simp only [step, fetch, hm] at h
    exact .inl ⟨[], .inl ⟨rfl, rfl⟩, hself.symm ▸ h⟩
  | cons e rest =>
    cases e with
    | wait =>
      simp only [step, fetch, hm] at h
      exact .inl ⟨rest, .inr rfl, h⟩
    | txn w =>
      cases hw : decode (.ht49 w) with
      | ok i =>
        simp only [step, fetch, hm, hw] at h
        exact .inr (.inl ⟨w, rest, i, rfl, hw, h⟩)
      | error r =>
        simp only [step, fetch, hm, hw] at h
        exact .inr (.inr (.inl ⟨_, rest, rfl, .inr ⟨w, r, rfl, hw⟩, eq_of_next h⟩))
    | otherWidth =>
      simp only [step, fetch, hm] at h
      exact .inr (.inr (.inl ⟨_, rest, rfl, .inl rfl, eq_of_next h⟩))
    | reset =>
      simp only [step, fetch, hm] at h
      exact .inr (.inr (.inr ⟨rest, rfl, eq_of_next h⟩))

/-- Settles O55: an instruction by its effect, and the steps that execute none one by one. -/
theorem capacitiesAreFixed : Obligations.CapacitiesAreFixed := by
  refine ⟨fun i s t h => (exec_effect h).cap_eq, fun s t h => ?_⟩
  obtain ⟨_, -, he⟩ | ⟨_, _, _, -, -, he⟩ | ⟨_, _, -, -, rfl⟩ | ⟨_, -, rfl⟩ := step_next h
  · exact (exec_effect he).cap_eq
  · exact (exec_effect he).cap_eq
  · rfl
  · rfl

end Sys2Proof.Machine
end

section
/-! SUPPORT. Control without data (10_state R41): the control registers of the next state are a function of the control
registers alone. -/

namespace Sys2Proof.Machine

open Sys2Proof

/-- The state with everything outside `SameControl` blanked. -/
def control (m : State) : State :=
  { State.reset with
    st := m.st, op := m.op, ph := m.ph, i := m.i, k := m.k, d := m.d, s := m.s, cfgN := m.cfgN, cfgR := m.cfgR,
    cap := m.cap, inputs := m.inputs }

theorem sameControl_iff {p q : State} : SameControl p q ↔ control p = control q := by
  simp only [SameControl, control, State.mk.injEq, true_and, and_true]

/-- The sequencer's moves on a state without data: the "to" and "counter writes" columns of R112. -/
def controlStep (m : State) : State :=
  match m.st with
  | .idle | .done | .error => m
  | .check => if (paramError m.op m.cfgN m.cfgR m.cap).isSome then { m with st := .error } else afterCheck m
  | .mxIn => { m with st := .scLoad }
  | .mxOut => { m with st := .done }
  | .bmInit => { m with k := 0#10, st := .bmXor }
  | .bmXor => { m with st := .scLoad }
  | .scLoad => { m with d := 0#2, s := 0#5, st := .scArx }
  | .scArx =>
    if m.s.toNat < 31 then { m with s := m.s + 1#5 }
    else if m.d.toNat < 3 then { m with d := m.d + 1#2, s := 0#5 }
    else { m with st := .scFfwd }
  | .scFfwd => { m with st := if m.op = .mix then .mxOut else .bmStore }
  | .bmStore =>
    if m.k.toNat + 1 < 2 * m.cfgR.toNat then { m with k := m.k + 1#10, st := .bmXor } else { m with st := .bmCommit }
  | .bmCommit => afterCommit m
  | .rmFill => { m with st := .bmInit }
  | .rmIdx => { m with st := .rmXorv }
  | .rmXorv => { m with st := .bmInit }

theorem control_afterCheck (m : State) : control (afterCheck m) = afterCheck (control m) := by
  unfold afterCheck control
  cases m.op <;> rfl

theorem control_afterCommit (m : State) : control (afterCommit m) = afterCommit (control m) := by
  unfold afterCommit control
  split
  · rfl
  · split
    · cases m.ph <;> rfl
    · cases m.ph <;> rfl

/-- Without a host step waiting the sequencer moves (R17). -/
theorem step_of_inputs_nil {m : State} (h : m.inputs = []) : step m = exec (sequencerInstr m) m := by
  simp only [step, fetch, h]

/-- 10_state R41: wherever the sequencer's move has a next state, the data have no part in its control registers. -/
theorem exec_sequencerInstr_control {m t : State} (h : exec (sequencerInstr m) m = .next t) :
    control t = controlStep (control m) := by
  have hst : (control m).st = m.st := rfl
  unfold sequencerInstr at h
  unfold controlStep
  rw [hst]
  cases hm : m.st <;> rw [hm] at h
  case idle | done | error => exact congrArg control (eq_of_next h)
  case check =>
    have hpe : paramError (control m).op (control m).cfgN (control m).cfgR (control m).cap =
      paramError m.op m.cfgN m.cfgR m.cap := rfl
    obtain ⟨e, he, hc⟩ | ⟨he, hc⟩ := execSqCheck_cases m
    · obtain rfl := eq_of_next (hc.symm.trans h)
      simp only [hpe, he]
      rfl
    · obtain rfl := eq_of_next (hc.symm.trans h)
      simp only [hpe, he]
      exact control_afterCheck m
  case mxIn =>
    obtain ⟨-, rfl⟩ := execMxIn_next h
    rfl
  case mxOut =>
    obtain ⟨-, rfl⟩ := execMxOut_next h
    rfl
  case bmInit =>
    obtain ⟨-, -, rfl⟩ := execBmInit_next h
    rfl
  case bmXor =>
    obtain ⟨-, rfl⟩ := execBmXor_next h
    rfl
  case scLoad => exact congrArg control (eq_of_next h)
  case scArx =>
    rw [eq_of_next h, apply_ite control, apply_ite control, hm]
    rfl
  case scFfwd => exact congrArg control (eq_of_next h)
  case bmStore =>
    obtain ⟨-, ⟨hk, rfl⟩ | ⟨hk, rfl⟩⟩ := execBmStore_next h
    · exact (if_pos hk).symm
    · exact (if_neg hk).symm
  case bmCommit =>
    rw [(execBmCommit_next h).2, control_afterCommit]
    rfl
  case rmFill =>
    obtain ⟨-, -, rfl⟩ := execRmFill_next h
    rfl
  case rmIdx =>
    obtain ⟨-, -, rfl⟩ := execRmIdx_next h
    rfl
  case rmXorv =>
    obtain ⟨-, -, rfl⟩ := execRmXorv_next h
    rfl

/-- Settles O59: both next control parts are the same function of equal control parts. -/
theorem controlIgnoresData : Obligations.ControlIgnoresData := by
  intro p q p' q' hpq hp hstep hstep'
  have hq : q.inputs = [] := by
    obtain ⟨-, -, -, -, -, -, -, -, -, -, hi⟩ := hpq
    exact hi ▸ hp
  rw [step_of_inputs_nil hp] at hstep
  rw [step_of_inputs_nil hq] at hstep'
  rw [sameControl_iff] at hpq ⊢
  calc control p' = controlStep (control p) := exec_sequencerInstr_control hstep
    _ = controlStep (control q) := congrArg controlStep hpq
    _ = control q' := (exec_sequencerInstr_control hstep').symm

end Sys2Proof.Machine
end

section
/-! SUPPORT. The bits of `STATUS` (10_state R34). -/

namespace Sys2Proof.Machine

open Sys2Proof

theorem busy_iff (m : State) : busy m = true ↔ ¬(m.st = .idle ∨ m.st = .done ∨ m.st = .error) := by
  unfold busy
  cases m.st <;> decide

/-- A bit of `STATUS` by the field it lies in. -/
theorem statusWord_getLsbD (m : State) (n : Nat) : (statusWord m).getLsbD n =
    if n = 0 then busy m else if n = 1 then m.st == .done else if n = 2 then m.st == .error
    else if n = 3 then false else m.ec.getLsbD (n - 4) := by
  simp only [statusWord, BitVec.getLsbD_append, BitVec.getLsbD_ofBool, BitVec.getLsbD_zero]
  rcases n with _ | _ | _ | _ | n
  · simp
  · simp
  · simp
  · simp
  · simpa using BitVec.lt_of_getLsbD

/-- The three flags, `ERROR` above `DONE` above `BUSY`. -/
theorem statusWord_flags (m : State) : (statusWord m).extractLsb' 0 3 =
    BitVec.ofBool (m.st == .error) ++ BitVec.ofBool (m.st == .done) ++ BitVec.ofBool (busy m) := by
  apply BitVec.eq_of_getLsbD_eq
  intro n hn
  simp only [BitVec.getLsbD_extractLsb', statusWord_getLsbD, BitVec.getLsbD_append, BitVec.getLsbD_ofBool]
  obtain rfl | rfl | rfl : n = 0 ∨ n = 1 ∨ n = 2 := by omega
  · rfl
  · rfl
  · rfl

theorem statusWord_errcode (m : State) : (statusWord m).extractLsb' 4 4 = m.ec := by
  unfold statusWord
  iterate 4 rw [BitVec.extractLsb'_append_eq_of_le (by decide)]
  rw [BitVec.extractLsb'_append_eq_of_add_le (by decide)]
  exact BitVec.extractLsb'_eq_self

theorem statusWord_high (m : State) : (statusWord m).extractLsb' 8 24 = 0#24 := by
  unfold statusWord
  iterate 5 rw [BitVec.extractLsb'_append_eq_of_le (by decide)]
  exact BitVec.extractLsb'_eq_self

/-- Settles O43: the bits by the field they lie in, the flags by the sequencer state. -/
theorem statusBits : Obligations.StatusBits := by
  intro s
  have hread : hostReg s.cap 0x0004#16 = .status := rfl
  refine ⟨?_, ?_, ?_, statusWord_getLsbD s 3, statusWord_errcode s, statusWord_high s, ?_, ?_, ?_, fun v => ?_⟩
  · rw [statusWord_getLsbD, ← busy_iff]; rfl
  · rw [statusWord_getLsbD]; exact beq_iff_eq
  · rw [statusWord_getLsbD]; exact beq_iff_eq
  · rw [statusWord_flags]; unfold busy; cases s.st <;> decide
  · rw [statusWord_flags]; unfold busy; cases s.st <;> decide
  · simp only [exec, execHrd, hostRead, hread]; rfl
  · simp only [exec, execHwr, hostWrite, hread]; rfl

/-- R35: outside `ERROR` the error code is 0. -/
theorem ec_eq_zero {m : State} (hec : ecOk m = true) (h : m.st ≠ .error) : m.ec = 0#4 := by
  unfold ecOk at hec
  cases hm : m.st <;> simp_all

/-- R35: in `ERROR` the code is that of an error the unit raises. -/
theorem ec_of_error {m : State} (hec : ecOk m = true) (h : m.st = .error) : m.ec = 1#4 ∨ m.ec = 2#4 := by
  simpa [ecOk, h, ErrCode.code] using hec

theorem statusWord_of_busy {m : State} (hb : busy m = true) (hec : m.ec = 0#4) : statusWord m = 0x00000001#32 := by
  obtain ⟨-, hdone, herror⟩ := not_or.mp ((busy_iff m).mp hb) |>.imp_right not_or.mp
  rw [statusWord, hb, hec, beq_false_of_ne hdone, beq_false_of_ne herror]
  decide

/-- Settles O44: the error code is fixed by `st`, and the two give the word. -/
theorem statusHasFiveValues : Obligations.StatusHasFiveValues := by
  intro s hinv
  obtain ⟨-, -, hec, -⟩ := hinv
  have hzero : s.st ≠ .error → s.ec = 0#4 := ec_eq_zero hec
  refine ⟨fun h => ?_, fun hb => ?_, fun h => ?_, fun h => ?_, fun h => ?_, fun h => ?_⟩
  · exact (statusWord_congr (n := State.reset) h (hzero (by simp [h]))).trans (by decide)
  · exact statusWord_of_busy hb (hzero fun h => (busy_iff s).mp hb (.inr (.inr h)))
  · exact (statusWord_congr (n := { State.reset with st := .done }) h (hzero (by simp [h]))).trans (by decide)
  · refine (ec_of_error hec h).imp (fun he => ?_) (fun he => ?_)
    · exact (statusWord_congr (n := { State.reset with st := .error, ec := 1#4 }) h he).trans (by decide)
    · exact (statusWord_congr (n := { State.reset with st := .error, ec := 2#4 }) h he).trans (by decide)
  · exact not_imp_comm.mp hzero h
  · obtain he | he := ec_of_error hec h <;> simp [he]

end Sys2Proof.Machine
end

section
/-! SUPPORT. Reset (10_state R39, 70_reset R310). -/

namespace Sys2Proof.Machine

open Sys2Proof

/-- Settles O52, one part of the invariant at a time. -/
theorem invariantAtReset : Obligations.InvariantAtReset :=
  ⟨by decide, by decide, by decide, by decide⟩

/-- In `IDLE` the sequencer takes no step (R39). -/
theorem step_of_idle {m : State} (hi : m.inputs = []) (h : m.st = .idle) : step m = .next m := by
  rw [step_of_inputs_nil hi, sequencerInstr, h]
  rfl

/-- Settles O50: the reset input leads to `resetUnit`, whose `STATUS` is that of `State.reset`. -/
theorem resetValues : Obligations.ResetValues := by
  refine ⟨⟨rfl, rfl, rfl, rfl, rfl, by decide, step_of_idle rfl rfl, fun op hop => ?_⟩, fun s rest hs => ?_⟩
  · obtain rfl | rfl := hop
    · rfl
    · rfl
  · refine ⟨resetUnit { s with inputs := rest }, ?_, rfl, rfl, rfl, rfl, rfl, ?_, rfl, rfl,
      fun hr => step_of_idle hr rfl⟩
    · simp only [step, fetch, hs]
    · exact statusWord_congr (n := State.reset) rfl rfl

end Sys2Proof.Machine
end

section
/-! SUPPORT. Byte packing (20_memory R62): a Word and its four bytes, the first least significant. -/

namespace Sys2Proof.Machine

open Sys2Proof

@[simp] theorem unpackLe_cons (b0 b1 b2 b3 : BitVec 8) (rest : List (BitVec 8)) :
    unpackLe (b0 :: b1 :: b2 :: b3 :: rest) = (unpackLe rest).map ((b3 ++ b2 ++ b1 ++ b0) :: ·) := rfl

@[simp] theorem packLe_cons (w : Word) (ws : List Word) :
    packLe (w :: ws) =
      w.extractLsb' 0 8 :: w.extractLsb' 8 8 :: w.extractLsb' 16 8 :: w.extractLsb' 24 8 :: packLe ws := rfl

theorem toNat_append_byte {n : Nat} (x : BitVec n) (b : BitVec 8) : (x ++ b).toNat = x.toNat * 2 ^ 8 + b.toNat := by
  rw [BitVec.toNat_append, ← Nat.shiftLeft_add_eq_or_of_lt b.isLt, Nat.shiftLeft_eq]

/-- R62: the Word of four bytes is their sum in base `2^8`. -/
theorem toNat_append_bytes (b0 b1 b2 b3 : BitVec 8) :
    (b3 ++ b2 ++ b1 ++ b0).toNat = b0.toNat + 2 ^ 8 * b1.toNat + 2 ^ 16 * b2.toNat + 2 ^ 24 * b3.toNat := by
  iterate 3 rw [toNat_append_byte]
  omega

/-- The bytes of a Word make it up again. -/
theorem append_bytes_of_word (w : Word) :
    w.extractLsb' 24 8 ++ w.extractLsb' 16 8 ++ w.extractLsb' 8 8 ++ w.extractLsb' 0 8 = w := by
  have h32 : w.extractLsb' 24 8 ++ w.extractLsb' 16 8 = w.extractLsb' 16 16 :=
    BitVec.extractLsb'_append_extractLsb'_eq_extractLsb' rfl
  have h24 : w.extractLsb' 16 16 ++ w.extractLsb' 8 8 = w.extractLsb' 8 24 :=
    BitVec.extractLsb'_append_extractLsb'_eq_extractLsb' rfl
  rw [h32, h24]
  exact BitVec.extractLsb'_append_extractLsb'

/-- The bytes of the Word of four bytes are those four. -/
theorem packLe_append_bytes (b0 b1 b2 b3 : BitVec 8) (ws : List Word) :
    packLe ((b3 ++ b2 ++ b1 ++ b0) :: ws) = b0 :: b1 :: b2 :: b3 :: packLe ws := by
  have h0 : (b3 ++ b2 ++ b1 ++ b0).extractLsb' 0 8 = b0 := BitVec.extractLsb'_append_eq_right
  have h1 : (b3 ++ b2 ++ b1 ++ b0).extractLsb' 8 8 = b1 := by
    rw [BitVec.extractLsb'_append_eq_of_le le_rfl]
    exact BitVec.extractLsb'_append_eq_right
  have h2 : (b3 ++ b2 ++ b1 ++ b0).extractLsb' 16 8 = b2 := by
    iterate 2 rw [BitVec.extractLsb'_append_eq_of_le (by decide)]
    exact BitVec.extractLsb'_append_eq_right
  have h3 : (b3 ++ b2 ++ b1 ++ b0).extractLsb' 24 8 = b3 := by
    iterate 2 rw [BitVec.extractLsb'_append_eq_of_le (by decide)]
    exact BitVec.extractLsb'_append_eq_left
  rw [packLe_cons, h0, h1, h2, h3]

/-- R62: only a byte string whose length is a multiple of 4 has a conversion. -/
theorem length_of_unpackLe {b : List (BitVec 8)} {ws : List Word} (h : unpackLe b = some ws) : b.length % 4 = 0 := by
  induction b using unpackLe.induct generalizing ws with
  | case1 => rfl
  | case2 b0 b1 b2 b3 rest ih =>
    obtain ⟨us, hus, -⟩ := Option.map_eq_some_iff.mp h
    have := ih hus
    simp only [List.length_cons]
    omega
  | case3 | case4 | case5 => cases h

theorem unpackLe_packLe (ws : List Word) : unpackLe (packLe ws) = some ws := by
  induction ws with
  | nil => rfl
  | cons w ws ih => rw [packLe_cons, unpackLe_cons, ih, append_bytes_of_word]; rfl

theorem packLe_of_unpackLe {b : List (BitVec 8)} {ws : List Word} (h : unpackLe b = some ws) : packLe ws = b := by
  induction b using unpackLe.induct generalizing ws with
  | case1 => cases h; rfl
  | case2 b0 b1 b2 b3 rest ih =>
    obtain ⟨us, hus, rfl⟩ := Option.map_eq_some_iff.mp h
    rw [packLe_append_bytes, ih hus]
  | case3 | case4 | case5 => cases h

/-- R62: byte `4*w + t` of the string is byte `t` of Word `w`. -/
theorem packLe_getD (ws : List Word) (w t : Nat) (hw : w < ws.length) (ht : t < 4) :
    (packLe ws).getD (4 * w + t) 0#8 = (ws.getD w 0#32).extractLsb' (8 * t) 8 := by
  induction ws generalizing w with
  | nil => exact absurd hw (Nat.not_lt_zero w)
  | cons v rest ih =>
    cases w with
    | zero => interval_cases t <;> rfl
    | succ n =>
      rw [show 4 * (n + 1) + t = 4 * n + t + 1 + 1 + 1 + 1 by omega]
      exact ih n (Nat.lt_of_succ_lt_succ hw)

/-- Settles O5, a formula or a direction of the inverse at a time. -/
theorem bytePacking : Obligations.BytePacking := by
  refine ⟨fun b hb => ?_, fun b0 b1 b2 b3 rest ws h => ?_, rfl, unpackLe_packLe, fun _ _ => packLe_of_unpackLe,
    fun ws w t hw ht => ?_⟩
  · exact Option.eq_none_iff_forall_ne_some.mpr fun ws h => hb (length_of_unpackLe h)
  · exact ⟨_, by rw [unpackLe_cons, h]; rfl, toNat_append_bytes b0 b1 b2 b3⟩
  · rw [packLe_getD ws w t hw ht, BitVec.extractLsb'_toNat, Nat.shiftRight_eq_div_pow]

end Sys2Proof.Machine
end

section
/-! SUPPORT. The accesses of the micro-operations: inside the capacities under the invariant (20_memory R69), a fault
beyond them (20_memory R63; log entry 8). -/

namespace Sys2Proof.Machine

open Sys2Proof

/-- In a group operation of ROMIX the index is in range and the check has passed (30_encoding R112, 42_romix R190). -/
theorem grouped_romix {m : State} (h : grouped m = true) (hop : m.op = .romix) :
    m.i.toNat < m.cfgN.toNat ∧ paramError .romix m.cfgN m.cfgR m.cap = none := by
  simp only [grouped, checked, hop, bne_self_eq_false, Bool.false_or, Bool.and_eq_true, decide_eq_true_eq,
    Option.isNone_iff_eq_none] at h
  obtain ⟨⟨⟨-, hcheck⟩, -⟩, hi⟩ := h
  exact ⟨hi, hcheck⟩

/-- An entry with index below `n` ends inside the first `n` entries of `32*r` Words (20_memory R69). -/
theorem entryBase_add_le {e n : Nat} (r : Nat) (he : e < n) : entryBase r e + 32 * r ≤ 32 * r * n :=
  calc entryBase r e + 32 * r = 32 * r * (e + 1) := by rw [entryBase]; ring
    _ ≤ 32 * r * n := Nat.mul_le_mul_left _ he

/-- Settles O33: both accesses are those of a ROMIX that passed its check, with the index below `N`. -/
theorem tableAddressesInBounds : Obligations.TableAddressesInBounds := by
  rintro s ⟨-, -, -, hctl⟩
  refine ⟨fun hst => ?_, fun hst => ?_⟩
  · simp only [controlOk, hst, Bool.and_eq_true, beq_iff_eq] at hctl
    obtain ⟨⟨hgrouped, hop⟩, -⟩ := hctl
    obtain ⟨hi, hcheck⟩ := grouped_romix hgrouped hop
    obtain ⟨-, -, -, hcap⟩ := paramError_romix hcheck
    exact ⟨hi, entryBase_add_le _ hi, hcap⟩
  · simp only [controlOk, hst, Bool.and_eq_true, beq_iff_eq, decide_eq_true_eq] at hctl
    obtain ⟨⟨⟨hgrouped, hop⟩, -⟩, hj⟩ := hctl
    obtain ⟨-, -, -, hcap⟩ := paramError_romix (grouped_romix hgrouped hop).2
    exact ⟨hj, entryBase_add_le _ hj, hcap⟩

theorem withBuffer_of_gt {m : State} {top : Nat} (n : Result) (h : bufferWords m < top) :
    withBuffer m top n = .fault .bufferRange := if_neg h.not_ge

theorem withTable_of_gt {m : State} {top : Nat} (n : Result) (h : m.cap.vWords < top) :
    withTable m top n = .fault .tableRange := if_neg h.not_ge

theorem withGroup_of_zero {m : State} (n : Result) (h : m.cfgR.toNat = 0) :
    withGroup m n = .fault .emptyGroup := if_pos h

/-- Settles O36, a guard at a time. -/
theorem accessesThatDoNotExistStop : Obligations.AccessesThatDoNotExistStop := by
  intro s
  have hbuf : bufferWords s = 32 * s.cap.rMax := rfl
  refine ⟨fun h0 => ⟨withGroup_of_zero _ h0, withGroup_of_zero _ h0⟩, fun hr => ?_, fun hk => ?_, fun hp => ?_,
    fun h0 => ⟨?_, ?_⟩, fun hr hv => ?_, fun hr hv => ?_⟩
  · have hpos : s.cfgR.toNat ≠ 0 := by omega
    have hgroup : bufferWords s < 32 * s.cfgR.toNat := by omega
    have hlast : bufferWords s < lastBlock s.cfgR.toNat + 1 := by rw [lastBlock]; omega
    exact ⟨(withGroup_of_pos _ hpos).trans (withBuffer_of_gt _ (by omega)), withBuffer_of_gt _ hgroup,
      withBuffer_of_gt _ hgroup, (withGroup_of_pos _ hpos).trans (withBuffer_of_gt _ hlast), withBuffer_of_gt _ hgroup⟩
  · exact withBuffer_of_gt _ (by omega)
  · exact withBuffer_of_gt _ (by omega)
  · exact withBuffer_of_gt _ (by omega)
  · exact withBuffer_of_gt _ (by omega)
  · exact (withBuffer_of_le _ (by omega)).trans (withTable_of_gt _ hv)
  · exact (withBuffer_of_le _ (by omega)).trans (withTable_of_gt _ hv)

end Sys2Proof.Machine
end

section
/-! SUPPORT. The answers to host transactions (20_memory sections 4 and 5): which register an offset reaches, what is
refused, and the step in which a record comes first. -/

namespace Sys2Proof.Machine

open Sys2Proof

/-- 20_memory R70, R72, R73: the offsets at which there is no register. -/
theorem hostReg_noRegister_iff (cap : Config.Capacity) (a : BitVec 16) :
    (hostReg cap a = .misaligned ∨ hostReg cap a = .unmapped) ↔
      a.toNat % 4 ≠ 0 ∨ ¬(a.toNat < 0x0010 ∨ (0x1000 ≤ a.toNat ∧ a.toNat < 0x1000 + 128 * cap.rMax)) := by
  simp only [hostReg]
  (repeat' split) <;> simp only [reduceCtorEq, or_self, or_true, true_or, true_iff, false_iff] <;> omega

/-- The offset of the register that is only read (R70). -/
theorem offset_of_status {cap : Config.Capacity} {a : BitVec 16} (h : hostReg cap a = .status) : a.toNat = 0x0004 := by
  simp only [hostReg] at h
  (repeat' split at h) <;> simp only [reduceCtorEq] at h
  assumption

theorem hostRead_of_noRegister {a : BitVec 16} {m : State}
    (h : hostReg m.cap a = .misaligned ∨ hostReg m.cap a = .unmapped) : hostRead a m = respond .err m := by
  obtain h | h := h <;> simp only [hostRead, h]

theorem hostWrite_of_noRegister {a : BitVec 16} {m : State} (v : Word)
    (h : hostReg m.cap a = .misaligned ∨ hostReg m.cap a = .unmapped) : hostWrite a v m = respond .err m := by
  obtain h | h := h <;> simp only [hostWrite, h]

/-- R75: a busy unit answers a read of `CMD` and of `STATUS` only. -/
theorem hostRead_of_busy {a : BitVec 16} {m : State} (hb : busy m = true) (hcmd : hostReg m.cap a ≠ .cmd)
    (hstatus : hostReg m.cap a ≠ .status) : hostRead a m = respond .err m := by
  unfold hostRead
  split
  case h_2 h => exact absurd h hcmd
  case h_3 h => exact absurd h hstatus
  case h_1 | h_7 => rfl
  case h_4 | h_5 | h_6 => exact if_pos hb

/-- A start code and a reserved code are refused while busy; of all values only `ABORT` is not (R223, R75). -/
theorem command_of_busy {v : Word} {m : State} (hb : busy m = true) (hv : v ≠ 4#32) : command v m = respond .err m := by
  have hstart (op : Op) : startCommand op m = respond .err m := if_pos hb
  obtain ⟨h, -⟩ | ⟨-, h⟩ | ⟨-, h⟩ | ⟨-, h⟩ | ⟨-, -, -, -, h⟩ := command_cases v m
  · exact absurd h hv
  · exact h.trans (hstart .mix)
  · exact h.trans (hstart .blockmix)
  · exact h.trans (hstart .romix)
  · exact h

/-- R75: a busy unit refuses every write but `ABORT`. -/
theorem hostWrite_of_busy {a : BitVec 16} {v : Word} {m : State} (hb : busy m = true)
    (h : ¬(a = 0x0000#16 ∧ v = 4#32)) : hostWrite a v m = respond .err m := by
  obtain hw | ⟨hr, hw⟩ | ⟨hn, -⟩ | ⟨hn, -⟩ | ⟨w, hn, -⟩ := hostWrite_cases a v m
  · exact hw
  · exact hw.trans (command_of_busy hb fun hv => h ⟨(hostReg_offset hr).1 rfl, hv⟩)
  all_goals simp [hb] at hn

/-- R74: a read is answered by data or refused, and changes the answer only. -/
theorem hostRead_answer (a : BitVec 16) (m : State) :
    ∃ r : Response, hostRead a m = respond r m ∧ (r = .err ∨ ∃ v, r = .data v) := by
  unfold hostRead unlessBusy
  split
  case h_1 | h_7 => exact ⟨_, rfl, .inl rfl⟩
  case h_2 | h_3 => exact ⟨_, rfl, .inr ⟨_, rfl⟩⟩
  case h_4 | h_5 | h_6 =>
    cases busy m
    · exact ⟨_, rfl, .inr ⟨_, rfl⟩⟩
    · exact ⟨_, rfl, .inl rfl⟩

@[simp] theorem abortCommand_resp (m : State) : (abortCommand m).resp = some .ok := rfl

theorem startCommand_answer (op : Op) (m : State) :
    startCommand op m = respond .err m ∨ (startCommand op m).resp = some .ok := by
  obtain ⟨-, h⟩ | ⟨-, h⟩ := startCommand_cases op m
  · exact .inl h
  · exact .inr (h ▸ rfl)

theorem command_answer (v : Word) (m : State) : command v m = respond .err m ∨ (command v m).resp = some .ok := by
  obtain ⟨-, h⟩ | ⟨-, h⟩ | ⟨-, h⟩ | ⟨-, h⟩ | ⟨-, -, -, -, h⟩ := command_cases v m <;> rw [h]
  · exact .inr (abortCommand_resp m)
  · exact startCommand_answer .mix m
  · exact startCommand_answer .blockmix m
  · exact startCommand_answer .romix m
  · exact .inl rfl

/-- R74: a write is answered `OK` or refused. -/
theorem hostWrite_answer (a : BitVec 16) (v : Word) (m : State) :
    hostWrite a v m = respond .err m ∨ (hostWrite a v m).resp = some .ok := by
  obtain h | ⟨-, h⟩ | ⟨-, -, h⟩ | ⟨-, -, h⟩ | ⟨w, -, -, h⟩ := hostWrite_cases a v m <;> rw [h]
  · exact .inl rfl
  · exact command_answer v m
  all_goals exact .inr rfl

/-! The step in which a transaction comes first. -/

theorem step_of_otherWidth {m : State} {rest : List Input} (h : m.inputs = .otherWidth :: rest) :
    step m = .next (respond .err { m with inputs := rest }) := by
  simp only [step, fetch, h]

/-- A read record is answered by data or refused: as a read of its offset, or as no row of the table (R74; R103, R121, log
entry 11). -/
theorem step_of_readRecord {m : State} {w : BitVec 49} {rest : List Input} (h : m.inputs = .txn w :: rest)
    (hk : recordKind w = false) :
    ∃ r : Response, step m = .next (respond r { m with inputs := rest }) ∧ (r = .err ∨ ∃ v, r = .data v) := by
  by_cases hd : recordData w = 0#32
  · obtain ⟨r, hr, hanswer⟩ := hostRead_answer (recordOffset w) { m with inputs := rest }
    refine ⟨r, ?_, hanswer⟩
    simp only [step, fetch, h, decode, decodeHt49, hk, hd, if_pos, exec, execHrd, hr]
  · refine ⟨.err, ?_, .inl rfl⟩
    simp only [step, fetch, h, decode, decodeHt49, hk, hd, if_pos, if_false]

/-- R105, R106, R223: whatever a write record decodes to, what is executed is the write of its data at its offset. -/
theorem exec_writeRecord (a : BitVec 16) (d : Word) :
    ∃ i, decode (.ht49 (packRecord true a d)) = .ok i ∧ ∀ m, exec i m = .next (hostWrite a d m) := by
  by_cases h1 : a = 0x0000#16 ∧ d = 1#32
  · obtain ⟨rfl, rfl⟩ := h1
    exact ⟨.mix, rfl, fun _ => rfl⟩
  by_cases h2 : a = 0x0000#16 ∧ d = 2#32
  · obtain ⟨rfl, rfl⟩ := h2
    exact ⟨.blockmix, rfl, fun _ => rfl⟩
  by_cases h3 : a = 0x0000#16 ∧ d = 3#32
  · obtain ⟨rfl, rfl⟩ := h3
    exact ⟨.romix, rfl, fun _ => rfl⟩
  by_cases h4 : a = 0x0000#16 ∧ d = 4#32
  · obtain ⟨rfl, rfl⟩ := h4
    exact ⟨.abort, rfl, fun _ => rfl⟩
  refine ⟨.hwr a d, ?_, fun _ => rfl⟩
  simp only [decode, decodeHt49, recordKind_pack, recordOffset_pack, recordData_pack, Bool.true_eq_false, h1, h2, h3, h4,
    if_false]

theorem step_of_writeRecord {m : State} {w : BitVec 49} {rest : List Input} (h : m.inputs = .txn w :: rest)
    (hk : recordKind w = true) :
    step m = .next (hostWrite (recordOffset w) (recordData w) { m with inputs := rest }) := by
  obtain ⟨i, hi, hexec⟩ := exec_writeRecord (recordOffset w) (recordData w)
  rw [← hk, packRecord_fields] at hi
  simp only [step, fetch, h, hi, hexec]

theorem decode_abortRecord {w : BitVec 49} (hk : recordKind w = true) (ha : recordOffset w = 0x0000#16)
    (hd : recordData w = 4#32) : decode (.ht49 w) = .ok .abort := by
  rw [← packRecord_fields w, hk, ha, hd]
  rfl

/-- Settles O49: the answer of a read, and that of a write. -/
theorem everyTransactionIsAnswered : Obligations.EveryTransactionIsAnswered := by
  intro s w rest hs
  have hkind : w.getLsbD 48 = recordKind w := rfl
  rw [hkind]
  cases hk : recordKind w with
  | false =>
    obtain ⟨r, hstep, hr⟩ := step_of_readRecord hs hk
    exact ⟨_, r, hstep, rfl, fun _ => hr, nofun, fun herr => herr ▸ rfl⟩
  | true =>
    have hstep := step_of_writeRecord hs hk
    obtain h | h := hostWrite_answer (recordOffset w) (recordData w) { s with inputs := rest }
    · rw [h] at hstep
      exact ⟨_, .err, hstep, rfl, nofun, fun _ => .inl rfl, fun _ => rfl⟩
    · exact ⟨_, .ok, hstep, h, nofun, fun _ => .inr rfl, nofun⟩

/-- Settles O60: a read changes the answer only, and a write that is no `ABORT` is refused. -/
theorem hostCannotDisturbABusyUnit : Obligations.HostCannotDisturbABusyUnit := by
  intro s t e rest hb hs hwait hreset habort hstep
  suffices hanswer : ∃ r, t = respond r { s with inputs := rest } by
    obtain ⟨r, rfl⟩ := hanswer
    rfl
  cases e with
  | wait => exact absurd rfl hwait
  | reset => exact absurd rfl hreset
  | otherWidth => exact ⟨.err, eq_of_next ((step_of_otherWidth hs).symm.trans hstep)⟩
  | txn w =>
    cases hk : recordKind w with
    | false =>
      obtain ⟨r, h, -⟩ := step_of_readRecord hs hk
      exact ⟨r, eq_of_next (h.symm.trans hstep)⟩
    | true =>
      have hno : ¬(recordOffset w = 0x0000#16 ∧ recordData w = 4#32) :=
        fun ⟨ha, hd⟩ => habort w rfl (decode_abortRecord hk ha hd)
      have hbusy : busy { s with inputs := rest } = true := hb
      have h := step_of_writeRecord hs hk
      rw [hostWrite_of_busy hbusy hno] at h
      exact ⟨.err, eq_of_next (h.symm.trans hstep)⟩

/-- Settles O41: the refusals by the register an offset reaches, and the three transactions that get `OK`. -/
theorem busyRefusals : Obligations.BusyRefusals := by
  intro s hb
  refine ⟨fun a h0 h4 => ?_, fun a v h => ?_, rfl, rfl, _, rfl, rfl⟩
  · have hcmd : hostReg s.cap a ≠ .cmd := fun h => h0 (by rw [(hostReg_offset h).1 rfl]; rfl)
    have hstatus : hostReg s.cap a ≠ .status := fun h => h4 (offset_of_status h)
    exact congrArg _ (hostRead_of_busy hb hcmd hstatus)
  · exact congrArg _ (hostWrite_of_busy hb fun ⟨ha, hv⟩ => h ⟨by rw [ha]; rfl, by rw [hv]; rfl⟩)

/-- Settles O48: where there is no register, a read and a write are refused. -/
theorem widthAlignmentAndMap : Obligations.WidthAlignmentAndMap := by
  refine ⟨fun s rest => step_of_otherWidth, fun s a v h => ?_⟩
  have hnone := (hostReg_noRegister_iff s.cap a).mpr h
  exact ⟨congrArg _ (hostRead_of_noRegister hnone), congrArg _ (hostWrite_of_noRegister v hnone)⟩

end Sys2Proof.Machine
end

section
/-! SUPPORT. The decoder on the fields of a record (30_encoding R102 to R106) and on the tables of R110 and R116. -/

namespace Sys2Proof

/-- A record of kind read is `HRD` when its data are 0, else no row (R103, R121). -/
theorem decode_readRecord (a : BitVec 16) (d : Word) :
    decode (.ht49 (packRecord false a d)) = if d = 0#32 then .ok (.hrd a) else .error .readWithData := by
  simp only [decode, decodeHt49, recordKind_pack, recordOffset_pack, recordData_pack, if_true]

/-- A record of kind write is a command at offset 0 with data 1 to 4, else a plain `HWR` (R104 to R106). -/
theorem decode_writeRecord (a : BitVec 16) (d : Word) :
    decode (.ht49 (packRecord true a d)) = .ok
      (if a = 0x0000#16 ∧ d = 1#32 then .mix
       else if a = 0x0000#16 ∧ d = 2#32 then .blockmix
       else if a = 0x0000#16 ∧ d = 3#32 then .romix
       else if a = 0x0000#16 ∧ d = 4#32 then .abort
       else .hwr a d) := by
  simp only [decode, decodeHt49, recordKind_pack, recordOffset_pack, recordData_pack, Bool.true_eq_false, if_false]
  split_ifs <;> rfl

/-- Settles O4: the decoder's comparisons, on the numbers of the offset and the data. -/
theorem mostSpecificRecordWins : Obligations.MostSpecificRecordWins := by
  intro a d
  rw [decode_writeRecord]
  simp only [← BitVec.toNat_inj, BitVec.toNat_ofNat, Nat.reducePow, Nat.reduceMod]

theorem wf_hwr {a : BitVec 16} {d : Word} (h1 : ¬(a = 0x0000#16 ∧ d = 1#32)) (h2 : ¬(a = 0x0000#16 ∧ d = 2#32))
    (h3 : ¬(a = 0x0000#16 ∧ d = 3#32)) (h4 : ¬(a = 0x0000#16 ∧ d = 4#32)) : (Instr.hwr a d).wf = true := by
  simp only [Instr.wf, isCommandWrite, Bool.not_eq_true', Bool.and_eq_false_imp, beq_iff_eq, Bool.or_eq_false_iff,
    beq_eq_false_iff_ne]
  tauto

/-- An instruction that a record decodes to is well formed and encoded as that record. -/
theorem encode_of_decode_ht49 {w : BitVec 49} {i : Instr} (h : decode (.ht49 w) = .ok i) :
    encode i = .ht49 w ∧ i.wf = true := by
  rw [← packRecord_fields w] at h ⊢
  generalize recordKind w = k, recordOffset w = a, recordData w = d at h ⊢
  cases k with
  | false =>
    rw [decode_readRecord] at h
    split_ifs at h with hd
    cases h
    exact ⟨congrArg (fun d => Code.ht49 (packRecord false a d)) hd.symm, rfl⟩
  | true =>
    rw [decode_writeRecord] at h
    split_ifs at h with h1 h2 h3 h4 <;> cases h
    · obtain ⟨rfl, rfl⟩ := h1; exact ⟨rfl, rfl⟩
    · obtain ⟨rfl, rfl⟩ := h2; exact ⟨rfl, rfl⟩
    · obtain ⟨rfl, rfl⟩ := h3; exact ⟨rfl, rfl⟩
    · obtain ⟨rfl, rfl⟩ := h4; exact ⟨rfl, rfl⟩
    · exact ⟨rfl, wf_hwr h1 h2 h3 h4⟩

/-- Settles O2, a format at a time. -/
theorem encodeOfDecode : Obligations.EncodeOfDecode := by
  intro c i h
  cases c with
  | ht49 w => exact encode_of_decode_ht49 h
  | st4 w =>
    have hall : ∀ w : BitVec 4, encode (decodeSt4 w) = .st4 w ∧ (decodeSt4 w).wf = true := by decide
    cases h
    exact hall w
  | sched17 w =>
    have hall : ∀ p ∈ schedWords.zip schedForms, encode p.2 = .sched17 p.1 ∧ p.2.wf = true := by decide
    exact hall _ (findForm_mem h)

end Sys2Proof
end

section
/-! SUPPORT. The schedule (30_encoding R114 to R117): its rows, its forms, and the effect of an ARX step
(40_streamcore R142). -/

namespace Sys2Proof.Machine

open Sys2Proof

/-- The word of each row decodes to the row's form (R116). -/
theorem decode_schedRow : ∀ row ∈ schedRows, decode (.sched17 row.word) = .ok row.form := by decide

/-- Each form is one ARX step with the fields of its row (R116, R142). -/
theorem exec_form {row : SchedRow} (h : row ∈ schedRows) : exec row.form = arxStep row.op := by
  have hall : schedRows.map (fun r => exec r.form) = schedRows.map (fun r => arxStep r.op) := rfl
  exact List.map_inj_left.mp hall row h

/-- Each value of `s` has its row, whose fields are those of `SCHED[s]` (R116). -/
theorem schedRow_of_index : ∀ n : BitVec 5, ∃ row ∈ schedRows, row.s = n.toNat ∧ schedOp n = row.op := by decide

theorem schedFields_schedRow : ∀ row ∈ schedRows, schedFields row.word = row.op := by decide

/-- The rows have different values of `s`. -/
theorem schedRow_word_unique : ∀ row ∈ schedRows, ∀ r ∈ schedRows, r.s = row.s → r.word = row.word := by decide

/-- R142: an ARX step writes `x[a]` and advances the counters or leaves for `SC.FFWD`. -/
theorem arxStep_arxEffect (f : ArxOp) (m : State) : ∃ t, arxStep f m = .next t ∧ ArxEffect f m t := by
  have hx : (arx m.x f)[f.a] = m.x[f.a] ^^^ (m.x[f.b] + m.x[f.c]).rotateLeft f.n := arx_at m.x f
  have hother (w : Fin 16) (hw : w ≠ f.a) : (arx m.x f)[w] = m.x[w] := arx_other m.x f hw
  obtain ⟨hs, h⟩ | ⟨hs, hd, h⟩ | ⟨hs, hd, h⟩ := arxStep_cases f m
  · refine ⟨_, h, hx, hother, fun _ => ⟨?_, rfl, rfl⟩, fun ⟨_, _⟩ => ?_, fun ⟨_, _⟩ => ?_, rfl⟩
    · bv_omega
    · omega
    · omega
  · refine ⟨_, h, hx, hother, fun _ => ?_, fun _ => ⟨rfl, ?_, rfl⟩, fun ⟨_, _⟩ => ?_, rfl⟩
    · omega
    · bv_omega
    · omega
  · refine ⟨_, h, hx, hother, fun _ => ?_, fun ⟨_, _⟩ => ?_, fun _ => ⟨rfl, rfl, rfl⟩, rfl⟩
    · omega
    · omega

/-- Settles O9: a form is the ARX step of its row's fields. -/
theorem scheduleFormsStep : Obligations.ScheduleFormsStep := by
  intro row hrow
  refine ⟨decode_schedRow row hrow, fun s => ?_⟩
  rw [exec_form hrow]
  exact arxStep_arxEffect row.op s

/-- Settles O11: the row of `s` gives the fields of the step. -/
theorem scArxFollowsTheSchedule : Obligations.ScArxFollowsTheSchedule := by
  refine ⟨rfl, fun s => ?_⟩
  obtain ⟨row, hrow, hs, hop⟩ := schedRow_of_index s.s
  have hexec : exec .scArx s = arxStep row.op s := congrArg (arxStep · s) hop
  refine ⟨row, hrow, hs, fun r hr h => schedRow_word_unique row hrow r hr (h.trans hs.symm),
    schedFields_schedRow row hrow, ?_, ?_⟩
  · rw [hexec, exec_form hrow]
  · rw [hexec]
    exact arxStep_arxEffect row.op s

/-- Settles O10, a quarter-round of R117 at a time. -/
theorem scheduleIsEightQuarterRounds : Obligations.ScheduleIsEightQuarterRounds := by
  intro q a b c d h
  fin_cases q <;> cases h <;> decide

end Sys2Proof.Machine
end

section
/-! SUPPORT. The state register's codes (30_encoding R110) and the sequencer's step (R111, 00_scope R17). -/

namespace Sys2Proof.Machine

open Sys2Proof

/-- In a resting state the sequencer takes no step, which the model shows as a step that changes nothing (log
entry 16). -/
theorem step_of_resting {m : State} (hi : m.inputs = []) (h : m.st = .idle ∨ m.st = .done ∨ m.st = .error) :
    step m = .next m := by
  rw [step_of_inputs_nil hi, sequencerInstr]
  obtain h | h | h := h <;> rw [h] <;> rfl

/-- Settles O45: the table by its sixteen codes, the resting states one by one. -/
theorem stateCodes : Obligations.StateCodes :=
  ⟨by decide, by decide, fun _ => ⟨rfl, rfl, rfl, step_of_resting⟩⟩

/-- With a waiting host the sequencer moves and the entry is taken from the list (log entry 1). -/
theorem step_of_wait {m : State} {rest : List Input} (h : m.inputs = .wait :: rest) :
    step m = exec (sequencerInstr m) { m with inputs := rest } := by
  simp only [step, fetch, h]

/-- Settles O46: the decoded code of `st` is the sequencer's next instruction. -/
theorem stepRunsTheSequencer : Obligations.StepRunsTheSequencer := by
  intro s i hi
  obtain rfl : sequencerInstr s = i := Except.ok.inj hi
  exact ⟨step_of_inputs_nil, fun rest => step_of_wait⟩

end Sys2Proof.Machine
end

section
/-! SUPPORT. The transition table of R112 row by row, from `controlStep`. -/

namespace Sys2Proof.Machine

open Sys2Proof

theorem isCommand_of_abort {i : Instr} (h : i = .abort ∨ i = .hwr 0x0000#16 4#32) : IsCommand i :=
  h.imp (fun h => by simp [h]) fun h => ⟨_, h⟩

/-- The commands and `SQ.CHECK` alone write `ec` (10_state R20). -/
theorem Effect.ec_eq {m t : State} {i : Instr} (h : Effect m i t) (hcommand : ¬ IsCommand i) (hcheck : i ≠ .sqCheck) :
    t.ec = m.ec := by
  cases h with
  | command _ hi => exact absurd hi hcommand
  | abortBusy _ _ hi => exact absurd (isCommand_of_abort hi) hcommand
  | checkFails => exact absurd rfl hcheck
  | _ => rfl

theorem not_isCommand_sequencerInstr (m : State) : ¬ IsCommand (sequencerInstr m) := by
  unfold sequencerInstr
  cases m.st <;> simp [IsCommand, stCode, decodeSt4, st4Forms]

theorem sequencerInstr_ne_sqCheck {m : State} (h : m.st ≠ .check) : sequencerInstr m ≠ .sqCheck := by
  unfold sequencerInstr
  cases hst : m.st
  case check => exact absurd hst h
  all_goals decide

/-- `controlStep` reads control registers only (R41). -/
theorem controlStep_control (m : State) : controlStep (control m) = control (controlStep m) := by
  have hst : (control m).st = m.st := rfl
  unfold controlStep
  rw [hst]
  cases m.st
  case check => rw [apply_ite control, control_afterCheck]; rfl
  case scArx => rw [apply_ite control, apply_ite control]; rfl
  case bmStore => rw [apply_ite control]; rfl
  case bmCommit => exact (control_afterCommit m).symm
  all_goals rfl

theorem controlAs_of_control {t u : State} (h : control t = control u) (hec : t.ec = u.ec) : ControlAs t u := by
  obtain ⟨hst, hop, hph, hi, hk, hd, hs, -⟩ := sameControl_iff.mpr h
  exact ⟨hst, hop, hec, hph, hi, hk, hd, hs⟩

@[simp] theorem afterCheck_ec (m : State) : (afterCheck m).ec = m.ec := by rw [afterCheck_frame]

@[simp] theorem afterCommit_ec (m : State) : (afterCommit m).ec = m.ec := by rw [afterCommit_frame]

@[simp] theorem controlStep_ec (m : State) : (controlStep m).ec = m.ec := by
  unfold controlStep
  cases m.st
  case check => simp only [apply_ite State.ec, afterCheck_ec, ite_self]
  case scArx | bmStore => simp only [apply_ite State.ec, ite_self]
  case bmCommit => exact afterCommit_ec m
  all_goals rfl

/-- R112: outside `SQ.CHECK` the sequencer's move writes the control registers as `controlStep` does. -/
theorem controlAs_controlStep {m t : State} (h : exec (sequencerInstr m) m = .next t) (hst : m.st ≠ .check) :
    ControlAs t (controlStep m) := by
  have hcontrol : control t = control (controlStep m) :=
    (exec_sequencerInstr_control h).trans (controlStep_control m)
  have hec : t.ec = m.ec :=
    (exec_effect h).ec_eq (not_isCommand_sequencerInstr m) (sequencerInstr_ne_sqCheck hst)
  exact controlAs_of_control hcontrol (hec.trans (controlStep_ec m).symm)

/-- The three commands a passed check starts (R190). -/
theorem afterCheck_of_op (m : State) :
    (m.op = .mix → afterCheck m = { m with st := .mxIn }) ∧
    (m.op = .blockmix → afterCheck m = { m with st := .bmInit }) ∧
    (m.op = .romix → afterCheck m = { m with i := 0#32, ph := .fill, st := .rmFill }) := by
  unfold afterCheck
  cases h : m.op <;> simp

theorem controlAs_of_eq {t u : State} (h : t = u) : ControlAs t u :=
  h ▸ ⟨rfl, rfl, rfl, rfl, rfl, rfl, rfl, rfl⟩

theorem controlAs_startCommand (op : Op) {m : State} (hb : busy m = false) :
    ControlAs (startCommand op m) { m with op := op, ec := 0#4, st := .check } := by
  obtain ⟨hbusy, -⟩ | ⟨-, h⟩ := startCommand_cases op m
  · exact absurd (hbusy.symm.trans hb) nofun
  · exact h ▸ ⟨rfl, rfl, rfl, rfl, rfl, rfl, rfl, rfl⟩

theorem execSqCheck_of_error {m : State} {e : ErrCode} (h : paramError m.op m.cfgN m.cfgR m.cap = some e) :
    execSqCheck m = .next (raiseError e m) := by
  simp only [execSqCheck, h]

theorem execSqCheck_of_none {m : State} (h : paramError m.op m.cfgN m.cfgR m.cap = none) :
    execSqCheck m = .next (afterCheck m) := by
  simp only [execSqCheck, h]

/-- Settles O51: the rows of the host, those of `SQ.CHECK`, and a row for each way `controlStep` goes on. -/
theorem transitionTable : Obligations.TransitionTable := by
  refine ⟨fun s hb row hrow => ?_, fun s => ⟨_, rfl, rfl, rfl, rfl⟩, fun s t hinputs hstep => ?_⟩
  · simp only [List.mem_cons, List.not_mem_nil, or_false] at hrow
    obtain rfl | rfl | rfl := hrow <;> exact ⟨_, rfl, controlAs_startCommand _ hb⟩
  have h : exec (sequencerInstr s) s = .next t := step_of_inputs_nil hinputs ▸ hstep
  have row {u : State} (hst : s.st ≠ .check) (hu : controlStep s = u) : ControlAs t u :=
    hu ▸ controlAs_controlStep h hst
  refine ⟨fun hst => ?check, fun hst => ?mxIn, fun hst => ?scLoad, fun hst => ?scArx, fun hst => ?scFfwd,
    fun hst => ?mxOut, fun hst => ?bmInit, fun hst => ?bmXor, fun hst => ?bmStore, fun hst => ?bmCommit,
    fun hst => ?rmFill, fun hst => ?rmIdx, fun hst => ?rmXorv⟩
  case check =>
    have hc : execSqCheck s = .next t := by rw [sequencerInstr, hst] at h; exact h
    refine ⟨fun e he => controlAs_of_eq (eq_of_next ((execSqCheck_of_error he).symm.trans hc)), fun hnone => ?_⟩
    obtain rfl := eq_of_next ((execSqCheck_of_none hnone).symm.trans hc)
    obtain ⟨hmix, hblockmix, hromix⟩ := afterCheck_of_op s
    exact ⟨fun hop => controlAs_of_eq (hmix hop), fun hop => controlAs_of_eq (hblockmix hop),
      fun hop => controlAs_of_eq (hromix hop)⟩
  case scArx =>
    refine ⟨fun hs => ?_, fun hs hd => ?_, fun hs hd => ?_⟩
    · exact row (by simp [hst]) (by simp [controlStep, hst, hs])
    · exact row (by simp [hst]) (by simp [controlStep, hst, hs, hd])
    · exact row (by simp [hst]) (by simp [controlStep, hst, hs, hd])
  case scFfwd =>
    refine ⟨fun hop => row (by simp [hst]) (by simp [controlStep, hst, hop]), fun hop => ?_⟩
    have hmix : s.op ≠ .mix := by obtain hop | hop := hop <;> simp [hop]
    exact row (by simp [hst]) (by simp [controlStep, hst, hmix])
  case bmStore =>
    refine ⟨fun hk => ?_, fun hk => ?_⟩
    · exact row (by simp [hst]) (by simp [controlStep, hst, hk])
    · exact row (by simp [hst]) (by simp [controlStep, hst, hk])
  case bmCommit =>
    have hcommit : controlStep s = afterCommit s := by rw [controlStep, hst]
    refine ⟨fun hop => ?_, fun hop hi hph => ?_, fun hop hi hph => ?_, fun hop hi hph => ?_, fun hop hi hph => ?_⟩ <;>
      refine row (by simp [hst]) (hcommit.trans ?_)
    · simp [afterCommit, hop]
    · simp [afterCommit, hop, hi, hph]
    · simp [afterCommit, hop, hi, hph]
    · simp [afterCommit, hop, hi.not_lt, hph]
    · simp [afterCommit, hop, hi.not_lt, hph]
  all_goals exact row (by simp [hst]) (by simp [controlStep, hst])

end Sys2Proof.Machine
end

section
/-! SUPPORT. The invariant of R112 under one step: the parameters a group operation has passed, the bounds of the stores,
and a preservation lemma for each move of the sequencer and each operation of the host. -/

namespace Sys2Proof.Machine

open Sys2Proof

/-! The parameters of a group operation (42_romix R190). -/

theorem two_le_of_validN {n : Word} (h : validN n = true) : 2 ≤ n.toNat := by
  simp only [validN, Bool.and_eq_true, decide_eq_true_eq] at h
  exact h.1

theorem grouped_of_romix {m : State} (hop : m.op = .romix) (hcheck : paramError .romix m.cfgN m.cfgR m.cap = none)
    (hi : m.i.toNat < m.cfgN.toNat) : grouped m = true := by
  simp [grouped, checked, hop, hcheck, hi]

theorem grouped_of_blockmix {m : State} (hop : m.op = .blockmix)
    (hcheck : paramError .blockmix m.cfgN m.cfgR m.cap = none) : grouped m = true := by
  simp [grouped, checked, hop, hcheck]

/-- A group operation is a BLOCKMIX or a ROMIX. -/
theorem op_of_grouped {m : State} (h : grouped m = true) : m.op = .blockmix ∨ m.op = .romix := by
  cases hop : m.op <;> simp [grouped, checked, hop] at h ⊢

/-- What the three ROMix states require beside the range of `j` (R112). -/
theorem romix_control {m : State} {ph : Pass} (hgrouped : grouped m = true) (hop : m.op = .romix) (hph : m.ph = ph) :
    (grouped m && m.op == .romix && m.ph == ph) = true := by
  simp only [hgrouped, hop, hph, beq_self_eq_true, Bool.and_self]

theorem two_le_cfgN_of_romix {m : State} (h : grouped m = true) (hop : m.op = .romix) : 2 ≤ m.cfgN.toNat :=
  two_le_of_validN (paramError_romix (grouped_romix h hop).2).1

/-- R195: the masked index is below `N`. -/
theorem and32_sub_one_lt (w : Word) {n : Word} (hn : 2 ≤ n.toNat) : (and32 w (n - 1#32)).toNat < n.toNat :=
  calc (and32 w (n - 1#32)).toNat = w.toNat &&& (n - 1#32).toNat := BitVec.toNat_and ..
    _ ≤ (n - 1#32).toNat := Nat.and_le_right
    _ < n.toNat := by bv_omega

/-! The stores. -/

/-- A store in canonical form that lists no Word at `bound` or above. -/
def StoreOk (m : Store) (bound : Nat) : Prop := m.wf = true ∧ m.below bound = true

theorem StoreOk.writeWords {m : Store} {a n : Nat} {ws : List Word} (hm : StoreOk m n) (h : a + ws.length ≤ n) :
    StoreOk (m.writeWords a ws) n :=
  ⟨writeWords_wf ws m a hm.1, writeWords_below ws m a n h hm.2⟩

theorem storesOk_iff (m : State) : storesOk m = true ↔
    StoreOk m.g (bufferWords m) ∧ StoreOk m.y (bufferWords m) ∧ StoreOk m.v m.cap.vWords := by
  simp only [storesOk, StoreOk, Bool.and_eq_true]
  tauto

section

variable {m : State} {a : Nat} {ws : List Word} (hm : storesOk m = true)

include hm

theorem storesOk_writeG (h : a + ws.length ≤ bufferWords m) :
    storesOk { m with g := m.g.writeWords a ws } = true := by
  obtain ⟨hg, hy, hv⟩ := (storesOk_iff m).mp hm
  exact (storesOk_iff _).mpr ⟨hg.writeWords h, hy, hv⟩

theorem storesOk_writeY (h : a + ws.length ≤ bufferWords m) :
    storesOk { m with y := m.y.writeWords a ws } = true := by
  obtain ⟨hg, hy, hv⟩ := (storesOk_iff m).mp hm
  exact (storesOk_iff _).mpr ⟨hg, hy.writeWords h, hv⟩

theorem storesOk_writeV (h : a + ws.length ≤ m.cap.vWords) :
    storesOk { m with v := m.v.writeWords a ws } = true := by
  obtain ⟨hg, hy, hv⟩ := (storesOk_iff m).mp hm
  exact (storesOk_iff _).mpr ⟨hg, hy, hv.writeWords h⟩

end

theorem storesOk_forget (m : State) : storesOk (forget m) = true := by
  simp [storesOk, forget]

/-! The moves of the sequencer. Each lemma takes the parts of the invariant that its micro-operation needs. -/

/-- R190, R274: a failing check ends in `ERROR` with the code of an error the unit raises. -/
theorem inv_raiseError {m : State} {e : ErrCode} (hcap : capOk m = true) (hstores : storesOk m = true)
    (hop : m.op ≠ .none) (he : e = .invalidParameter ∨ e = .resourceExhaustion) : Inv (raiseError e m) := by
  refine ⟨hcap, hstores, ?_, bne_iff_ne.mpr hop⟩
  obtain rfl | rfl := he
  · rfl
  · rfl

/-- R190: a check that passes starts its command, a ROMix with the index 0 below `N`. -/
theorem inv_afterCheck {m : State} (hcap : capOk m = true) (hstores : storesOk m = true) (hec : (m.ec == 0#4) = true)
    (hop : m.op ≠ .none) (hcheck : paramError m.op m.cfgN m.cfgR m.cap = none) : Inv (afterCheck m) := by
  obtain ⟨hmix, hblockmix, hromix⟩ := afterCheck_of_op m
  cases h : m.op <;> rw [h] at hcheck
  case none => exact absurd h hop
  case mix => exact hmix h ▸ ⟨hcap, hstores, hec, beq_iff_eq.mpr h⟩
  case blockmix => exact hblockmix h ▸ ⟨hcap, hstores, hec, grouped_of_blockmix h hcheck⟩
  case romix =>
    have hn : 2 ≤ m.cfgN.toNat := two_le_of_validN (paramError_romix hcheck).1
    exact hromix h ▸ ⟨hcap, hstores, hec, romix_control (grouped_of_romix h hcheck (Nat.zero_lt_of_lt hn)) h rfl⟩

/-- R175: the ways on after a commit. A step of the index stays below `N`. -/
theorem inv_afterCommit {m : State} (hcap : capOk m = true) (hstores : storesOk m = true) (hec : (m.ec == 0#4) = true)
    (hgrouped : grouped m = true) : Inv (afterCommit m) := by
  have hromix (h : m.op ≠ .blockmix) : m.op = .romix := (op_of_grouped hgrouped).resolve_left h
  have hcheck (h : m.op ≠ .blockmix) := (grouped_romix hgrouped (hromix h)).2
  have hsucc (h : m.i.toNat + 1 < m.cfgN.toNat) : (m.i + 1#32).toNat < m.cfgN.toNat := by bv_omega
  obtain ⟨hop, h⟩ | ⟨hop, hi, hph, h⟩ | ⟨hop, hi, hph, h⟩ | ⟨hop, -, -, h⟩ | ⟨hop, -, -, h⟩ :=
    afterCommit_cases m <;> rw [h] <;> refine ⟨hcap, hstores, hec, ?_⟩
  · exact bne_iff_ne.mpr (by simp [hop])
  · exact romix_control (grouped_of_romix (hromix hop) (hcheck hop) (hsucc hi)) (hromix hop) hph
  · exact romix_control (grouped_of_romix (hromix hop) (hcheck hop) (hsucc hi)) (hromix hop) hph
  · have hn := two_le_cfgN_of_romix hgrouped (hromix hop)
    exact romix_control (grouped_of_romix (hromix hop) (hcheck hop) (Nat.zero_lt_of_lt hn)) (hromix hop) rfl
  · exact bne_iff_ne.mpr (by simp [hromix hop])

/-- R142: an ARX step leaves what `SC.FFWD` needs. -/
theorem inv_arxStep {m t : State} (f : ArxOp) (hm : Inv m) (hst : m.st = .scArx) (h : arxStep f m = .next t) :
    Inv t := by
  obtain ⟨hcap, hstores, hec, hctl⟩ := hm
  simp only [ecOk, controlOk, hst] at hec hctl
  obtain ⟨-, ht⟩ | ⟨-, -, ht⟩ | ⟨-, -, ht⟩ := arxStep_cases f m <;> obtain rfl := eq_of_next (ht.symm.trans h) <;>
    refine ⟨hcap, hstores, ?_, ?_⟩
  all_goals
    simp only [ecOk, controlOk, hst]
    assumption

/-- The two ways on from `SC.FFWD` (R143). -/
theorem execScFfwd_cases (m : State) :
    (m.op = .mix ∧ execScFfwd m = .next { m with t := zipBlock add32 m.x m.t, st := .mxOut }) ∨
    (m.op ≠ .mix ∧ execScFfwd m = .next { m with t := zipBlock add32 m.x m.t, st := .bmStore }) := by
  unfold execScFfwd
  by_cases h : m.op = .mix <;> simp [h]

/-- 30_encoding R112: every move of the sequencer keeps the invariant. -/
theorem inv_exec_sequencerInstr {m t : State} (hm : Inv m) (h : exec (sequencerInstr m) m = .next t) : Inv t := by
  obtain ⟨hcap, hstores, hec, hctl⟩ := id hm
  unfold sequencerInstr at h
  simp only [ecOk, controlOk] at hec hctl
  cases hst : m.st <;> simp only [hst] at h hec hctl
  case idle | done | error => exact eq_of_next h ▸ hm
  case check =>
    have hop : m.op ≠ .none := bne_iff_ne.mp hctl
    obtain ⟨e, he, hc⟩ | ⟨hnone, hc⟩ := execSqCheck_cases m <;> obtain rfl := eq_of_next (hc.symm.trans h)
    · exact inv_raiseError hcap hstores hop (paramError_some he)
    · exact inv_afterCheck hcap hstores hec hop hnone
  case mxIn =>
    obtain ⟨-, rfl⟩ := execMxIn_next h
    exact ⟨hcap, hstores, hec, Bool.or_inl hctl⟩
  case mxOut =>
    obtain ⟨hb, rfl⟩ := execMxOut_next h
    refine ⟨hcap, storesOk_writeG hstores (by simpa using hb), hec, bne_iff_ne.mpr ?_⟩
    simp [beq_iff_eq.mp hctl]
  case bmInit =>
    obtain ⟨hr, -, rfl⟩ := execBmInit_next h
    have hzero : (0#10).toNat < 2 * m.cfgR.toNat := Nat.mul_pos Nat.two_pos (Nat.pos_of_ne_zero hr)
    exact ⟨hcap, hstores, hec, Bool.and_intro hctl (decide_eq_true hzero)⟩
  case bmXor =>
    obtain ⟨-, rfl⟩ := execBmXor_next h
    exact ⟨hcap, hstores, hec, Bool.or_inr hctl⟩
  case scLoad => exact eq_of_next h ▸ ⟨hcap, hstores, hec, hctl⟩
  case scArx => exact inv_arxStep _ hm hst h
  case scFfwd =>
    obtain ⟨hop, hf⟩ | ⟨hop, hf⟩ := execScFfwd_cases m <;> obtain rfl := eq_of_next (hf.symm.trans h)
    · exact ⟨hcap, hstores, hec, beq_iff_eq.mpr hop⟩
    · exact ⟨hcap, hstores, hec, ((Bool.or_eq_true _ _).mp hctl).resolve_left (by simpa using hop)⟩
  case bmStore =>
    simp only [Bool.and_eq_true] at hctl
    obtain ⟨hgrouped, -⟩ := hctl
    obtain ⟨hb, ⟨hk, rfl⟩ | ⟨hk, rfl⟩⟩ := execBmStore_next h
    · have hnext : (m.k + 1#10).toNat < 2 * m.cfgR.toNat := by bv_omega
      exact ⟨hcap, storesOk_writeY hstores (by simpa using hb), hec, Bool.and_intro hgrouped (decide_eq_true hnext)⟩
    · exact ⟨hcap, storesOk_writeY hstores (by simpa using hb), hec, hgrouped⟩
  case bmCommit =>
    obtain ⟨hb, rfl⟩ := execBmCommit_next h
    exact inv_afterCommit hcap (storesOk_writeG hstores (by simpa using hb)) hec hctl
  case rmFill =>
    obtain ⟨-, hb, rfl⟩ := execRmFill_next h
    simp only [Bool.and_eq_true] at hctl
    obtain ⟨⟨hgrouped, -⟩, -⟩ := hctl
    exact ⟨hcap, storesOk_writeV hstores (by simpa using hb), hec, hgrouped⟩
  case rmIdx =>
    obtain ⟨-, -, rfl⟩ := execRmIdx_next h
    have hromix := hctl
    simp only [Bool.and_eq_true, beq_iff_eq] at hromix
    obtain ⟨⟨hgrouped, hop⟩, -⟩ := hromix
    have hn := two_le_cfgN_of_romix hgrouped hop
    exact ⟨hcap, hstores, hec, Bool.and_intro hctl (decide_eq_true (and32_sub_one_lt _ hn))⟩
  case rmXorv =>
    obtain ⟨hb, -, rfl⟩ := execRmXorv_next h
    simp only [Bool.and_eq_true] at hctl
    obtain ⟨⟨⟨hgrouped, -⟩, -⟩, -⟩ := hctl
    exact ⟨hcap, storesOk_writeG hstores (by simpa using hb), hec, hgrouped⟩

/-! The host's operations. -/

theorem inv_startCommand {op : Op} {m : State} (hop : op ≠ .none) (hm : Inv m) : Inv (startCommand op m) := by
  obtain ⟨-, h⟩ | ⟨-, h⟩ := startCommand_cases op m <;> rw [h]
  · exact hm
  · obtain ⟨hcap, hstores, -, -⟩ := hm
    exact ⟨hcap, hstores, rfl, bne_iff_ne.mpr hop⟩

theorem inv_abortCommand {m : State} (hm : Inv m) : Inv (abortCommand m) := by
  obtain ⟨hcap, hstores, -, -⟩ := hm
  obtain ⟨-, h⟩ | ⟨-, h⟩ := abortCommand_cases m <;> rw [h]
  · exact ⟨hcap, storesOk_forget m, rfl, rfl⟩
  · exact ⟨hcap, hstores, rfl, rfl⟩

theorem inv_command {v : Word} {m : State} (hm : Inv m) : Inv (command v m) := by
  obtain ⟨-, h⟩ | ⟨-, h⟩ | ⟨-, h⟩ | ⟨-, h⟩ | ⟨-, -, -, -, h⟩ := command_cases v m <;> rw [h]
  · exact inv_abortCommand hm
  · exact inv_startCommand nofun hm
  · exact inv_startCommand nofun hm
  · exact inv_startCommand nofun hm
  · exact hm

/-- In a resting state R112 asks something of `op` only, so a register of the configuration may change. -/
theorem controlOk_of_resting {m n : State} (hctl : controlOk m = true) (hb : busy m = false) (hst : n.st = m.st)
    (hop : n.op = m.op) : controlOk n = true := by
  unfold busy at hb
  unfold controlOk at hctl ⊢
  rw [hst, hop]
  cases h : m.st <;> simp only [h, reduceCtorEq] at hb hctl ⊢ <;> exact hctl

theorem inv_hostWrite {a : BitVec 16} {v : Word} {m : State} (hm : Inv m) : Inv (hostWrite a v m) := by
  obtain ⟨hcap, hstores, hec, hctl⟩ := id hm
  obtain h | ⟨-, h⟩ | ⟨hb, -, h⟩ | ⟨hb, -, h⟩ | ⟨w, hb, hreg, h⟩ := hostWrite_cases a v m <;> rw [h]
  · exact hm
  · exact inv_command hm
  · exact ⟨hcap, hstores, hec, controlOk_of_resting hctl hb rfl rfl⟩
  · exact ⟨hcap, hstores, hec, controlOk_of_resting hctl hb rfl rfl⟩
  · have hw : w + [v].length ≤ bufferWords m := (hostReg_g hreg).1
    have hstores' : storesOk { m with g := m.g.writeWords w [v] } = true := storesOk_writeG hstores hw
    exact ⟨hcap, hstores', hec, controlOk_of_resting hctl hb rfl rfl⟩

theorem inv_resetUnit {m : State} (hcap : capOk m = true) : Inv (resetUnit m) :=
  ⟨hcap, storesOk_forget m, rfl, rfl⟩

/-- Settles O53, by the kind of step: the sequencer moves, a record is read or written, a transaction is refused, or the
reset input is asserted. -/
theorem invariantKept : Obligations.InvariantKept := by
  intro s t hs hstep
  have hrest (rest : List Input) : Inv { s with inputs := rest } := hs
  obtain ⟨rest, -, h⟩ | ⟨w, rest, -, hw, -, -⟩ | ⟨-, rest, -, -, rfl⟩ | ⟨rest, -, rfl⟩ := step_next hstep
  · exact inv_exec_sequencerInstr (hrest rest) h
  · cases hk : recordKind w with
    | false =>
      obtain ⟨r, hr, -⟩ := step_of_readRecord hw hk
      exact eq_of_next (hr.symm.trans hstep) ▸ hs
    | true =>
      have ht := eq_of_next ((step_of_writeRecord hw hk).symm.trans hstep)
      exact ht ▸ inv_hostWrite (hrest rest)
  · exact hs
  · obtain ⟨hcap, -⟩ := hs
    exact inv_resetUnit hcap

end Sys2Proof.Machine
end

section
/-! SUPPORT. The quarter-round (40_streamcore R146), and that ARX steps are undone by repeating them (R150). -/

namespace Sys2Proof.Machine

open Sys2Proof

@[simp] theorem applyArx_nil (x : Block) : applyArx [] x = x := rfl

@[simp] theorem applyArx_cons (f : ArxOp) (ops : List ArxOp) (x : Block) :
    applyArx (f :: ops) x = applyArx ops (arx x f) := rfl

@[simp] theorem applyArx_append (ops ops' : List ArxOp) (x : Block) :
    applyArx (ops ++ ops') x = applyArx ops' (applyArx ops x) :=
  List.foldl_append

theorem block_ext {x y : Block} (h : ∀ w : Fin 16, x[w] = y[w]) : x = y :=
  Vector.ext fun w hw => h ⟨w, hw⟩

/-- A Word after an ARX step. -/
theorem arx_getElem (x : Block) (f : ArxOp) (w : Fin 16) :
    (arx x f)[w] = if w = f.a then x[f.a] ^^^ (x[f.b] + x[f.c]).rotateLeft f.n else x[w] := by
  split
  · next h => exact h ▸ arx_at x f
  · next h => exact arx_other x f h

/-- Settles O14: each of the four steps reads what the steps before it wrote, the four registers being different. -/
theorem quarterRound : Obligations.QuarterRound := by
  intro x a b c d hab hac had hbc hbd hcd
  refine ⟨_, _, _, _, rfl, rfl, rfl, rfl, ?_, ?_, ?_, ?_, fun w ha hb hc hd => ?_⟩
  · simp [-Fin.getElem_fin, qr, arx_getElem, hab, hac, had, hbc, hbc.symm, hbd.symm, hcd, hcd.symm]
  · simp [-Fin.getElem_fin, qr, arx_getElem, hab.symm, hbc, hbd]
  · simp [-Fin.getElem_fin, qr, arx_getElem, hab, hac.symm, hbc.symm, hcd]
  · simp [-Fin.getElem_fin, qr, arx_getElem, hab, had.symm, hbc, hbc.symm, hbd.symm, hcd.symm]
  · simp [-Fin.getElem_fin, qr, arx_getElem, ha, hb, hc, hd]

/-- An ARX step that does not add the register it writes (R150). -/
def Separate (f : ArxOp) : Prop := f.b ≠ f.a ∧ f.c ≠ f.a

/-- The repeated step computes the same sum, so its xor cancels (R150). -/
theorem arx_arx {f : ArxOp} (hf : Separate f) (x : Block) : arx (arx x f) f = x := by
  obtain ⟨hb, hc⟩ := hf
  refine block_ext fun w => ?_
  by_cases ha : w = f.a
  · rw [ha, arx_at, arx_at, arx_other x f hb, arx_other x f hc, xor32, xor32, BitVec.xor_assoc, BitVec.xor_self,
      BitVec.xor_zero]
  · rw [arx_other _ f ha, arx_other x f ha]

/-- Steps are undone by taking them again, the last one first. -/
theorem applyArx_reverse {ops : List ArxOp} (h : ∀ f ∈ ops, Separate f) (x : Block) :
    applyArx ops.reverse (applyArx ops x) = x := by
  induction ops generalizing x with
  | nil => rfl
  | cons f ops ih =>
    obtain ⟨hf, hops⟩ := List.forall_mem_cons.mp h
    rw [applyArx_cons, List.reverse_cons, applyArx_append, ih hops]
    exact arx_arx hf x

/-- R116: no row of the schedule adds the register it writes. -/
theorem schedRow_separate : ∀ row ∈ schedRows, Separate row.op := by
  unfold Separate
  decide

/-! The zero Block (R150). -/

theorem zeroBlock_getElem (w : Fin 16) : zeroBlock[w] = 0#32 := Vector.getElem_replicate _

/-- A step on the zero Block writes the rotated sum of zeros. -/
theorem arx_zeroBlock (f : ArxOp) : arx zeroBlock f = zeroBlock := by
  refine block_ext fun w => ?_
  simp [-Fin.getElem_fin, arx_getElem, zeroBlock_getElem, BitVec.rotateLeft, BitVec.rotateLeftAux]

theorem applyArx_zeroBlock (ops : List ArxOp) : applyArx ops zeroBlock = zeroBlock :=
  List.foldl_fixed' arx_zeroBlock ops

end Sys2Proof.Machine
end

section
/-! SUPPORT. The schedule repeated, which a StreamCore pass runs through step by step (40_streamcore R144, R149). -/

namespace Sys2Proof.Machine

open Sys2Proof

/-- The first `n` ARX steps of a pass: step `n` takes the fields `SCHED[n mod 32]`, `s` having 5 bits (R116). -/
def passOps (n : Nat) : List ArxOp := (List.range n).map fun i => schedOp (BitVec.ofNat 5 i)

theorem passOps_succ (n : Nat) : passOps (n + 1) = passOps n ++ [schedOp (BitVec.ofNat 5 n)] := by
  rw [passOps, List.range_succ, List.map_append]
  rfl

/-- After the 32 steps of a double-round the schedule begins again. -/
theorem passOps_add_doubleRound (n : Nat) : passOps (32 + n) = schedOps ++ passOps n := by
  have hfirst : passOps 32 = schedOps := by decide
  have hwrap (i : Nat) : BitVec.ofNat 5 (32 + i) = BitVec.ofNat 5 i := by
    rw [BitVec.ofNat_add]
    exact BitVec.zero_add _
  rw [← hfirst, passOps, List.range_add, List.map_append, List.map_map]
  exact congrArg (passOps 32 ++ ·) (List.map_congr_left fun i _ => congrArg schedOp (hwrap i))

/-- The double-rounds of R140 are the steps of the schedule, 32 to a double-round (R149). -/
theorem doubleRounds_eq (n : Nat) (x : Block) : doubleRounds n x = applyArx (passOps (32 * n)) x := by
  induction n generalizing x with
  | zero => rfl
  | succ n ih =>
    rw [Nat.mul_succ, Nat.add_comm (32 * n), passOps_add_doubleRound, applyArx_append, ← ih]
    rfl

theorem passOps_separate {n : Nat} {f : ArxOp} (hf : f ∈ passOps n) : Separate f := by
  obtain ⟨i, -, rfl⟩ := List.mem_map.mp hf
  obtain ⟨row, hrow, -, hop⟩ := schedRow_of_index (BitVec.ofNat 5 i)
  exact hop ▸ schedRow_separate row hrow

theorem mix_zeroBlock : mix zeroBlock = zeroBlock := by
  rw [mix, doubleRounds_eq, applyArx_zeroBlock]
  decide

/-- Settles O15: a pass is undone by its steps in the reverse order. -/
theorem arxStepsAreUndone : Obligations.ArxStepsAreUndone := by
  refine ⟨fun row hrow => arx_arx (schedRow_separate row hrow), ⟨applyArx (passOps 128).reverse, fun x => ?_⟩,
    mix_zeroBlock⟩
  have hops : ∀ f ∈ passOps 128, Separate f := fun f => passOps_separate
  have hreverse : ∀ f ∈ (passOps 128).reverse, Separate f := fun f hf => hops f (List.mem_reverse.mp hf)
  rw [doubleRounds_eq, doubleRounds_eq]
  refine ⟨applyArx_reverse hops x, ?_⟩
  have h := applyArx_reverse hreverse x
  rwa [List.reverse_reverse] at h

end Sys2Proof.Machine
end

section
/-! SUPPORT. The StreamCore pass (40_streamcore R141 to R144): `SC.LOAD`, 128 ARX steps, `SC.FFWD`. -/

namespace Sys2Proof.Machine

open Sys2Proof

/-- Settles O8, from the meaning of `SC.LOAD`. -/
theorem scLoadStartsAPass : Obligations.ScLoadStartsAPass :=
  ⟨rfl, fun _ => ⟨_, rfl, fun _ => rfl, rfl, rfl, rfl, rfl⟩⟩

/-- Settles O12, by the two ways on from `SC.FFWD`. -/
theorem scFfwdAddsTheInput : Obligations.ScFfwdAddsTheInput := by
  refine ⟨rfl, fun s => ?_⟩
  have hsum (w : Fin 16) : (zipBlock add32 s.x s.t)[w].toNat = (s.x[w].toNat + s.t[w].toNat) % 2 ^ 32 := by
    rw [Fin.getElem_fin, zipBlock_getElem]
    exact toNat_add32 _ _
  obtain ⟨hop, h⟩ | ⟨hop, h⟩ := execScFfwd_cases s
  · exact ⟨_, h, hsum, fun _ => rfl, fun hne => absurd hop hne, rfl⟩
  · exact ⟨_, h, hsum, fun heq => absurd heq hop, fun _ => rfl, rfl⟩

/-- The unit before ARX step `n` of a pass that began in `m`. -/
def beforeArx (m : State) (n : Nat) : State :=
  { m with x := applyArx (passOps n) m.t, d := BitVec.ofNat 2 (n / 32), s := BitVec.ofNat 5 n, st := .scArx }

/-- The unit before `SC.FFWD` of a pass that began in `m`, with the working copy `x`. -/
def beforeFfwd (m : State) (x : Block) : State := { m with x := x, d := 3#2, s := 31#5, st := .scFfwd }

/-- The unit after a pass that began in `m`. -/
def afterPass (m : State) : State :=
  { m with x := doubleRounds 4 m.t, t := mix m.t, d := 3#2, s := 31#5,
           st := if m.op = .mix then .mxOut else .bmStore }

theorem beforeArx_toNat {n : Nat} (m : State) (hn : n < 128) :
    (beforeArx m n).s.toNat = n % 32 ∧ (beforeArx m n).d.toNat = n / 32 :=
  ⟨BitVec.toNat_ofNat n 5, (BitVec.toNat_ofNat (n / 32) 2).trans (Nat.mod_eq_of_lt (by omega))⟩

/-- The working copy after ARX step `n`. -/
theorem arx_beforeArx (m : State) (n : Nat) :
    arx (beforeArx m n).x (schedOp (beforeArx m n).s) = applyArx (passOps (n + 1)) m.t := by
  rw [passOps_succ, applyArx_append]
  rfl

section
variable {m : State} (hi : m.inputs = [])
include hi

theorem step_scLoad (hst : m.st = .scLoad) : step m = .next (beforeArx m 0) := by
  rw [step_of_inputs_nil hi, sequencerInstr, hst]
  rfl

theorem step_beforeArx_eq (n : Nat) :
    step (beforeArx m n) = arxStep (schedOp (beforeArx m n).s) (beforeArx m n) :=
  step_of_inputs_nil hi

/-- Each ARX step but the last is followed by the next, the counters advancing with it (R142). -/
theorem step_beforeArx {n : Nat} (hn : n < 127) : step (beforeArx m n) = .next (beforeArx m (n + 1)) := by
  obtain ⟨hs, hd⟩ := beforeArx_toNat m (show n < 128 by omega)
  rw [step_beforeArx_eq hi]
  obtain ⟨hlt, h⟩ | ⟨heq, -, h⟩ | ⟨heq, hlast, -⟩ := arxStep_cases (schedOp (beforeArx m n).s) (beforeArx m n)
  · have hs' : (beforeArx m n).s + 1#5 = BitVec.ofNat 5 (n + 1) := (BitVec.ofNat_add n 1).symm
    have hround : n / 32 = (n + 1) / 32 := by omega
    rw [h, arx_beforeArx, hs', beforeArx, beforeArx, hround]
  · have hs' : 0#5 = BitVec.ofNat 5 (n + 1) := by bv_omega
    have hround : n / 32 + 1 = (n + 1) / 32 := by omega
    have hd' : (beforeArx m n).d + 1#2 = BitVec.ofNat 2 ((n + 1) / 32) := by
      rw [← hround]
      exact (BitVec.ofNat_add (n / 32) 1).symm
    rw [h, arx_beforeArx, hd', hs']
    rfl
  · omega

/-- The step with `d = 3` and `s = 31` is the last (R142, R144). -/
theorem step_beforeArx_last {n : Nat} (hn : n = 127) :
    step (beforeArx m n) = .next (beforeFfwd m (doubleRounds 4 m.t)) := by
  obtain ⟨hs, hd⟩ := beforeArx_toNat m (show n < 128 by omega)
  rw [step_beforeArx_eq hi]
  obtain ⟨hlt, -⟩ | ⟨-, hlt, -⟩ | ⟨hs31, hd3, h⟩ := arxStep_cases (schedOp (beforeArx m n).s) (beforeArx m n)
  · omega
  · omega
  · have hs' : (beforeArx m n).s = 31#5 := BitVec.eq_of_toNat_eq hs31
    have hd' : (beforeArx m n).d = 3#2 := BitVec.eq_of_toNat_eq hd3
    have hx : applyArx (passOps (n + 1)) m.t = doubleRounds 4 m.t := by rw [doubleRounds_eq, hn]
    rw [h, arx_beforeArx, hx, beforeFfwd, ← hd', ← hs']
    rfl

theorem step_beforeFfwd (x : Block) : step (beforeFfwd m x) = .next
    { m with x := x, t := zipBlock add32 x m.t, d := 3#2, s := 31#5,
             st := if m.op = .mix then .mxOut else .bmStore } :=
  step_of_inputs_nil hi

variable (hst : m.st = .scLoad)
include hst

theorem run_beforeArx {n : Nat} (hn : n < 128) :
    Host.Core.run Sys2Proof.core (1 + n) m = .next (beforeArx m n) := by
  induction n with
  | zero => exact run_succ_of_step 0 (step_scLoad hi hst)
  | succ n ih => exact run_add (a := 1 + n) (ih (by omega)) (run_succ_of_step 0 (step_beforeArx hi (by omega)))

theorem run_beforeFfwd : Host.Core.run Sys2Proof.core 129 m = .next (beforeFfwd m (doubleRounds 4 m.t)) :=
  run_add (run_beforeArx hi hst (n := 127) (by decide)) (run_succ_of_step 0 (step_beforeArx_last hi rfl))

/-- A pass is 130 steps (R144). -/
theorem run_pass : Host.Core.run Sys2Proof.core 130 m = .next (afterPass m) :=
  run_add (run_beforeFfwd hi hst) (run_succ_of_step 0 (step_beforeFfwd hi (doubleRounds 4 m.t)))

end

/-- Settles O13, from the state at each position of the pass. -/
theorem streamCorePass : Obligations.StreamCorePass := by
  intro s hst hi
  refine ⟨fun n hn => ⟨_, run_beforeArx hi hst hn, rfl⟩, ⟨_, run_beforeFfwd hi hst, rfl⟩,
    _, run_pass hi hst, rfl, rfl, rfl, rfl, fun h => ?_, fun h => ?_, rfl⟩
  · exact if_pos h
  · exact if_neg h

end Sys2Proof.Machine
end

section
/-! SUPPORT. The interleave position (41_blockmixer R174). -/

namespace Sys2Proof.Machine

open Sys2Proof

theorem pos_of_even (r : Nat) {k : Nat} (h : k % 2 = 0) : pos r k = k / 2 := if_pos h

theorem pos_of_odd (r : Nat) {k : Nat} (h : k % 2 = 1) : pos r k = r + (k - 1) / 2 := if_neg (by omega)

theorem pos_lt {r k : Nat} (hk : k < 2 * r) : pos r k < 2 * r := by
  obtain h | h := Nat.mod_two_eq_zero_or_one k
  · rw [pos_of_even r h]
    omega
  · rw [pos_of_odd r h]
    omega

/-- Even `k` are placed below `r` and odd `k` from `r` on, each kind in its order. -/
theorem pos_injective {r k k' : Nat} (hk : k < 2 * r) (hk' : k' < 2 * r) (h : pos r k = pos r k') : k = k' := by
  unfold pos at h
  split at h <;> split at h <;> omega

/-- Every Block of the group is the place of some `k`. -/
theorem exists_pos_eq {r p : Nat} (hp : p < 2 * r) : ∃ k, k < 2 * r ∧ pos r k = p := by
  by_cases h : p < r
  · exact ⟨2 * p, by omega, by rw [pos_of_even r (by omega)]; omega⟩
  · exact ⟨2 * (p - r) + 1, by omega, by rw [pos_of_odd r (by omega)]; omega⟩

/-- Settles O16: the two formulas, and the bijection from them. -/
theorem interleavePlaces : Obligations.InterleavePlaces := by
  refine fun r => ⟨fun k => pos_of_even r, fun k => pos_of_odd r, fun k => pos_lt, fun k k' => pos_injective,
    fun p => exists_pos_eq, fun k hodd hk => ?_⟩
  rw [pos_of_odd r hodd]
  omega

end Sys2Proof.Machine
end

section
/-! SUPPORT. The BlockMixer micro-operations on a group that fits the buffers (41_blockmixer R171 to R175). -/

namespace Sys2Proof.Machine

open Sys2Proof

theorem lastBlock_add_block {r : Nat} (hr : 1 ≤ r) : lastBlock r + 16 = 32 * r := by
  unfold lastBlock
  omega

/-- A Block of a group lies inside it. -/
theorem block_le_group {r p : Nat} (hp : p < 2 * r) : 16 * p + 16 ≤ 32 * r := by omega

/-- What the bound of `SQ.CHECK` on `r` says of the buffers (20_memory R69). -/
theorem group_le_bufferWords {m : State} (hr : m.cfgR.toNat ≤ m.cap.rMax) : 32 * m.cfgR.toNat ≤ bufferWords m :=
  Nat.mul_le_mul_left 32 hr

/-- A Block of the group lies inside the buffers. -/
theorem block_le_bufferWords {m : State} {p : Nat} (hp : p < 2 * m.cfgR.toNat) (hr : m.cfgR.toNat ≤ m.cap.rMax) :
    16 * p + 16 ≤ bufferWords m :=
  (block_le_group hp).trans (group_le_bufferWords hr)

theorem lastBlock_le_bufferWords {m : State} (h1 : 1 ≤ m.cfgR.toNat) (hr : m.cfgR.toNat ≤ m.cap.rMax) :
    lastBlock m.cfgR.toNat + 16 ≤ bufferWords m :=
  (lastBlock_add_block h1).trans_le (group_le_bufferWords hr)

/-- Settles O17: the last Block lies inside the buffer, so the access is made. -/
theorem bmInitLoadsTheLastBlock : Obligations.BmInitLoadsTheLastBlock :=
  ⟨rfl, fun s h1 hr => ⟨_, execBmInit_eq (Nat.ne_zero_of_lt h1) (lastBlock_le_bufferWords h1 hr),
    fun w => readBlock_getElem s.g _ w w.isLt, rfl, rfl, rfl⟩⟩

/-- Settles O18: Block `k` lies inside the buffer, so the access is made. -/
theorem bmXorFoldsBlockK : Obligations.BmXorFoldsBlockK := by
  refine ⟨rfl, fun s hk hr => ⟨_, execBmXor_eq (block_le_bufferWords hk hr), fun w => ?_, rfl, rfl⟩⟩
  simp [xor32]

/-- A written Block reads back at its place. -/
theorem read_writeBlock_inside (m : Store) (a : Nat) (b : Block) (w : Fin 16) :
    (m.writeWords a b.toList).read (a + w) = b[w] := by
  rw [read_writeWords_inside _ _ _ _ (by simp), Fin.getElem_fin, Vector.getElem_toList]

/-- A written Block leaves the other Words of the store. -/
theorem read_writeBlock_outside (m : Store) (b : Block) {a c : Nat} (h : c < a ∨ a + 16 ≤ c) :
    (m.writeWords a b.toList).read c = m.read c :=
  read_writeWords_outside _ _ _ _ (by simpa using h)

theorem readBlock_writeBlock_same (m : Store) (a : Nat) (b : Block) : (m.writeWords a b.toList).readBlock a = b :=
  block_ext fun w => (readBlock_getElem _ _ _ w.isLt).trans (read_writeBlock_inside m a b w)

/-- A Block written at one place of the interleave leaves the Block at another. -/
theorem readBlock_writeBlock_other (m : Store) (b : Block) {p q : Nat} (h : q ≠ p) :
    (m.writeWords (16 * p) b.toList).readBlock (16 * q) = m.readBlock (16 * q) := by
  refine block_ext fun w => ?_
  rw [Fin.getElem_fin, Fin.getElem_fin, readBlock_getElem, readBlock_getElem,
    read_writeBlock_outside m b (by omega)]

/-- Settles O19: the two ways on from `BM.STORE`; `k + 1` fits the 10 bits of `k` since `2*r <= 960`. -/
theorem bmStoreInterleaves : Obligations.BmStoreInterleaves := by
  refine ⟨rfl, fun s hk hr hcap => ?_⟩
  have hexec := execBmStore_eq (block_le_bufferWords (pos_lt hk) hr)
  have hin (w : Fin 16) := read_writeBlock_inside s.y (16 * pos s.cfgR.toNat s.k.toNat) s.t w
  have hout (a : Nat) := read_writeBlock_outside s.y s.t (a := 16 * pos s.cfgR.toNat s.k.toNat) (c := a)
  by_cases hlast : s.k.toNat + 1 < 2 * s.cfgR.toNat
  · rw [if_pos hlast] at hexec
    have hsucc : (s.k + 1#10).toNat = s.k.toNat + 1 := by bv_omega
    exact ⟨_, hexec, hin, hout, fun _ => ⟨hsucc, rfl⟩, fun h => absurd hlast (by omega), rfl⟩
  · rw [if_neg hlast] at hexec
    exact ⟨_, hexec, hin, hout, fun h => absurd h hlast, fun _ => ⟨rfl, rfl⟩, rfl⟩

/-- The copy of `BM.COMMIT`, Word by Word (R175). -/
theorem commitGroup_read (m : State) (w : Nat) :
    (commitGroup m).g.read w = if w < 32 * m.cfgR.toNat then m.y.read w else m.g.read w := by
  simp only [commitGroup, read_writeWords, readWords_length, Nat.zero_le, Nat.zero_add, true_and, Nat.sub_zero]
  split
  · next h => rw [readWords_getD _ _ _ _ h, Nat.zero_add]
  · rfl

/-- What follows the copy leaves `G` (R175). -/
@[simp] theorem afterCommit_g (m : State) : (afterCommit m).g = m.g := by rw [afterCommit_frame]

theorem afterCommit_of_blockmix {m : State} (hop : m.op = .blockmix) : afterCommit m = { m with st := .done } :=
  if_pos hop

/-- In `DONE` only the `DONE` flag is set (10_state R34). -/
theorem statusWord_flags_of_done {m : State} (h : m.st = .done) : (statusWord m).extractLsb' 0 3 = 2#3 := by
  rw [statusWord_flags, busy, h]
  decide

/-- Settles O20: the copy Word by Word, then the five ways on. -/
theorem bmCommitCopiesAndGoesOn : Obligations.BmCommitCopiesAndGoesOn := by
  refine ⟨rfl, fun s hr _ => ⟨_, execBmCommit_eq (group_le_bufferWords hr), fun w hw => ?_, fun w hw => ?_,
    statusWord_flags_of_done, ?_⟩⟩
  · rw [afterCommit_g, commitGroup_read, if_pos hw]
  · rw [afterCommit_g, commitGroup_read, if_neg (by omega)]
  · have hsucc (hi : s.i.toNat + 1 < s.cfgN.toNat) : (s.i + 1#32).toNat = s.i.toNat + 1 := by bv_omega
    have hways := afterCommit_cases (commitGroup s)
    simp only [commitGroup_op, commitGroup_i, commitGroup_cfgN, commitGroup_ph] at hways
    obtain ⟨hop, h⟩ | ⟨hop, hi, hph, h⟩ | ⟨hop, hi, hph, h⟩ | ⟨hop, hi, hph, h⟩ | ⟨hop, hi, hph, h⟩ := hways <;> rw [h]
    · simp [hop]
    · simp [hop, hi, hi.ne, hph, hsucc hi]
    · simp [hop, hi, hi.ne, hph, hsucc hi]
    · simp [hop, hi, hph]
    · simp [hop, hi, hph]

end Sys2Proof.Machine
end

section
/-! SUPPORT. `blockMix` (41_blockmixer R170): each iteration writes its Block where no other does (R174, R177). -/

namespace Sys2Proof.Machine

open Sys2Proof

theorem length_putWords {y ws : List Word} {a : Nat} (h : a + ws.length ≤ y.length) :
    (putWords y a ws).length = y.length := by
  simp only [putWords, List.length_append, List.length_take, List.length_drop]
  omega

/-- Everything that replacing Words of a list does to a Word of it. -/
theorem putWords_getD {y ws : List Word} {a : Nat} (h : a ≤ y.length) (b : Nat) :
    (putWords y a ws).getD b 0#32 = if a ≤ b ∧ b < a + ws.length then ws.getD (b - a) 0#32 else y.getD b 0#32 := by
  have htake : (y.take a).length = a := List.length_take_of_le h
  simp only [putWords, List.getD_eq_getElem?_getD, List.append_assoc, List.getElem?_append, htake, List.getElem?_take,
    List.getElem?_drop]
  split
  · rw [if_neg (by omega)]
  · split
    · rw [if_pos (by omega)]
    · have hb : a + ws.length + (b - a - ws.length) = b := by omega
      rw [if_neg (by omega), hb]

theorem blockMixSteps_succ_block (g : List Word) (r k : Nat) : (blockMixSteps g r (k + 1)).1 =
    mix (zipBlock xor32 (blockMixSteps g r k).1 (groupBlock g (16 * k))) := rfl

theorem blockMixSteps_succ_output (g : List Word) (r k : Nat) : (blockMixSteps g r (k + 1)).2 =
    putWords (blockMixSteps g r k).2 (16 * pos r k) (blockMixSteps g r (k + 1)).1.toList := rfl

theorem length_blockMixSteps (g : List Word) {r n : Nat} (hn : n ≤ 2 * r) :
    (blockMixSteps g r n).2.length = 32 * r := by
  induction n with
  | zero => exact List.length_replicate
  | succ n ih =>
    have hlen := ih (by omega)
    rw [blockMixSteps_succ_output, length_putWords, hlen]
    simpa [hlen] using block_le_group (pos_lt hn)

/-- The Block of iteration `k` stays where it was put: the later iterations have other places (R174). -/
theorem blockMixSteps_placed (g : List Word) {r k n : Nat} (hkn : k < n) (hn : n ≤ 2 * r) (w : Fin 16) :
    (blockMixSteps g r n).2.getD (16 * pos r k + w) 0#32 = (blockMixSteps g r (k + 1)).1[w] := by
  induction n with
  | zero => omega
  | succ n ih =>
    have hplace : 16 * pos r n ≤ (blockMixSteps g r n).2.length := by
      rw [length_blockMixSteps g (by omega)]
      exact Nat.le_of_add_right_le (block_le_group (pos_lt hn))
    rw [blockMixSteps_succ_output, putWords_getD hplace]
    obtain rfl | hlt := Nat.eq_or_lt_of_le (Nat.le_of_lt_succ hkn)
    · simp
    · have hne : pos r k ≠ pos r n := fun h => hlt.ne (pos_injective (hlt.trans hn) hn h)
      rw [if_neg (by rw [Vector.length_toList]; omega), ih hlt (by omega)]

/-- Settles O21: the Block keeps its place to the last iteration. -/
theorem blockMixPlacement : Obligations.BlockMixPlacement :=
  fun g _ _ w hk => ⟨length_blockMixSteps g le_rfl, blockMixSteps_placed g hk le_rfl w⟩

end Sys2Proof.Machine
end

section
/-! SUPPORT. The BlockMixer run (41_blockmixer R176): its iterations, each `BM.XOR`, a StreamCore pass, `BM.STORE`. -/

namespace Sys2Proof.Machine

open Sys2Proof

/-- The group in `G`: its `32*r` Words. -/
def groupWords (m : State) : List Word := m.g.readWords 0 (32 * m.cfgR.toNat)

/-- A Block of the group in `G` is the Block of its list of Words. -/
theorem groupBlock_groupWords {m : State} {a : Nat} (ha : a + 16 ≤ 32 * m.cfgR.toNat) :
    groupBlock (groupWords m) a = m.g.readBlock a := by
  refine block_ext fun w => ?_
  have hw : a + w < 32 * m.cfgR.toNat := by omega
  rw [Fin.getElem_fin, Fin.getElem_fin, groupBlock, blockOf_getElem, readBlock_getElem]
  exact (readWords_getD _ _ _ _ hw).trans (congrArg m.g.read (Nat.zero_add _))

/-- `u` differs from `m` at most in the registers that the micro-operations of an iteration write. -/
def IterationFrame (m u : State) : Prop :=
  { u with x := m.x, t := m.t, y := m.y, k := m.k, d := m.d, s := m.s, st := m.st } = m

/-- A BlockMixer run that began in `m` has mixed `mixed` Blocks, the last of them standing in `T`, and has stored the
first `stored` of them at their places in `Y`. -/
structure Progress (m : State) (mixed stored : Nat) (u : State) : Prop where
  frame : IterationFrame m u
  block : u.t = (blockMixSteps (groupWords m) m.cfgR.toNat mixed).1
  placed : ∀ k < stored,
    u.y.readBlock (16 * pos m.cfgR.toNat k) = (blockMixSteps (groupWords m) m.cfgR.toNat (k + 1)).1

/-- The unit after `BM.INIT` of a run that began in `m` and `n` iterations. -/
structure AfterIterations (m : State) (n : Nat) (u : State) : Prop extends Progress m n n u where
  more : n < 2 * m.cfgR.toNat → u.st = .bmXor ∧ u.k.toNat = n
  finished : n = 2 * m.cfgR.toNat → u.st = .bmCommit

/-- The unit before `BM.STORE` of iteration `n` of a run that began in `m`. -/
structure BeforeStore (m : State) (n : Nat) (u : State) : Prop extends Progress m (n + 1) n u where
  st_eq : u.st = .bmStore
  k_eq : u.k.toNat = n

/-! What an iteration leaves unchanged. -/

section
variable {m u : State} (h : IterationFrame m u)
include h

theorem IterationFrame.g_eq : u.g = m.g := (congrArg State.g h :)

theorem IterationFrame.v_eq : u.v = m.v := (congrArg State.v h :)

theorem IterationFrame.op_eq : u.op = m.op := (congrArg State.op h :)

theorem IterationFrame.cfgN_eq : u.cfgN = m.cfgN := (congrArg State.cfgN h :)

theorem IterationFrame.cfgR_eq : u.cfgR = m.cfgR := (congrArg State.cfgR h :)

theorem IterationFrame.cap_eq : u.cap = m.cap := (congrArg State.cap h :)

theorem IterationFrame.inputs_eq : u.inputs = m.inputs := (congrArg State.inputs h :)

end

/-- The unit after `BM.XOR` (R172). -/
def afterXor (m : State) : State :=
  { m with t := zipBlock xor32 m.t (m.g.readBlock (16 * m.k.toNat)), st := .scLoad }

/-- What an iteration needs of the pass: `T` is mixed, and `x`, `d`, `s` are whatever the pass leaves in them (R144). -/
theorem afterPass_eq (m : State) : afterPass m =
    { m with x := (afterPass m).x, t := mix m.t, d := (afterPass m).d, s := (afterPass m).s,
             st := if m.op = .mix then .mxOut else .bmStore } := by
  rw [afterPass]

theorem iterationFrame_afterPass {m u : State} (h : IterationFrame m u) : IterationFrame m (afterPass u) := by
  simpa only [IterationFrame, afterPass] using h

/-- The Block in `T` joins those already stored, the places being different (R174). -/
theorem BeforeStore.placed_succ {m u : State} {n : Nat} (h : BeforeStore m n u) (hn : n < 2 * m.cfgR.toNat) :
    ∀ k < n + 1,
      (u.y.writeWords (16 * pos u.cfgR.toNat u.k.toNat) u.t.toList).readBlock (16 * pos m.cfgR.toNat k) =
        (blockMixSteps (groupWords m) m.cfgR.toNat (k + 1)).1 := by
  intro k hk
  rw [h.k_eq, h.frame.cfgR_eq]
  obtain rfl | hlt := Nat.eq_or_lt_of_le (Nat.le_of_lt_succ hk)
  · rw [readBlock_writeBlock_same, h.block]
  · have hne : pos m.cfgR.toNat k ≠ pos m.cfgR.toNat n := fun heq => hlt.ne (pos_injective (hlt.trans hn) hn heq)
    rw [readBlock_writeBlock_other _ _ hne, h.placed k hlt]

/-! The micro-operations as steps, on a group that fits the buffers. -/

section
variable {m u : State} {n : Nat} (hi : m.inputs = []) (hr : m.cfgR.toNat ≤ m.cap.rMax)
include hi hr

theorem step_bmInit (hst : m.st = .bmInit) (h1 : 1 ≤ m.cfgR.toNat) :
    ∃ u, step m = .next u ∧ AfterIterations m 0 u := by
  have hlast := lastBlock_add_block h1
  rw [step_of_inputs_nil hi, sequencerInstr, hst]
  refine ⟨_, execBmInit_eq (Nat.ne_zero_of_lt h1) (lastBlock_le_bufferWords h1 hr), ⟨rfl, ?_, ?_⟩, ?_, ?_⟩
  · exact (groupBlock_groupWords hlast.le).symm
  · exact fun k hk => absurd hk k.not_lt_zero
  · exact fun _ => ⟨rfl, rfl⟩
  · omega

theorem step_bmCommit (hst : m.st = .bmCommit) : step m = .next (afterCommit (commitGroup m)) := by
  rw [step_of_inputs_nil hi, sequencerInstr, hst]
  exact execBmCommit_eq (group_le_bufferWords hr)

theorem AfterIterations.step_bmXor (h : AfterIterations m n u) (hn : n < 2 * m.cfgR.toNat) :
    step u = .next (afterXor u) := by
  obtain ⟨hst, hk⟩ := h.more hn
  rw [step_of_inputs_nil (h.frame.inputs_eq.trans hi), sequencerInstr, hst]
  refine execBmXor_eq (block_le_bufferWords ?_ ?_)
  · rwa [hk, h.frame.cfgR_eq]
  · rwa [h.frame.cfgR_eq, h.frame.cap_eq]

/-- `k + 1` fits its 10 bits since `2*r <= 960` (R173, 00_scope R9). -/
theorem BeforeStore.step_bmStore (h : BeforeStore m n u) (hn : n < 2 * m.cfgR.toNat) (hcap : m.cap.rMax ≤ 480) :
    ∃ v, step u = .next v ∧ AfterIterations m (n + 1) v := by
  have hk : u.k.toNat < 2 * u.cfgR.toNat := by rwa [h.k_eq, h.frame.cfgR_eq]
  have hfit : u.cfgR.toNat ≤ u.cap.rMax := by rwa [h.frame.cfgR_eq, h.frame.cap_eq]
  have hplaced := h.placed_succ hn
  rw [step_of_inputs_nil (h.frame.inputs_eq.trans hi), sequencerInstr, h.st_eq]
  refine ⟨_, execBmStore_eq (block_le_bufferWords (pos_lt hk) hfit), ?_⟩
  have hlast : u.k.toNat + 1 < 2 * u.cfgR.toNat ↔ n + 1 < 2 * m.cfgR.toNat := by rw [h.k_eq, h.frame.cfgR_eq]
  by_cases hmore : n + 1 < 2 * m.cfgR.toNat
  · rw [if_pos (hlast.mpr hmore)]
    have hsucc : (u.k + 1#10).toNat = n + 1 := by
      have hkn := h.k_eq
      bv_omega
    exact ⟨⟨h.frame, h.block, hplaced⟩, fun _ => ⟨rfl, hsucc⟩, fun heq => absurd heq hmore.ne⟩
  · rw [if_neg (mt hlast.mp hmore)]
    exact ⟨⟨h.frame, h.block, hplaced⟩, fun hlt => absurd hlt hmore, fun _ => rfl⟩

end

/-- The Block that a pass of iteration `n` mixes (R170, R172). -/
theorem AfterIterations.mixed {m u : State} {n : Nat} (h : AfterIterations m n u) (hn : n < 2 * m.cfgR.toNat) :
    mix (afterXor u).t = (blockMixSteps (groupWords m) m.cfgR.toNat (n + 1)).1 := by
  rw [blockMixSteps_succ_block, ← h.block, groupBlock_groupWords (block_le_group hn), ← h.frame.g_eq, ← (h.more hn).2]
  rfl

theorem AfterIterations.run_pass {m u : State} {n : Nat} (h : AfterIterations m n u) (hn : n < 2 * m.cfgR.toNat)
    (hi : m.inputs = []) (hop : m.op ≠ .mix) :
    ∃ w : State, Host.Core.run Sys2Proof.core 130 (afterXor u) = .next w ∧ BeforeStore m n w := by
  have hop' : (afterXor u).op ≠ .mix := h.frame.op_eq.trans_ne hop
  have hrun := Machine.run_pass (m := afterXor u) (h.frame.inputs_eq.trans hi) rfl
  have hframe : IterationFrame m (afterPass (afterXor u)) := iterationFrame_afterPass h.frame
  rw [afterPass_eq] at hrun hframe
  exact ⟨_, hrun, ⟨hframe, h.mixed hn, h.placed⟩, if_neg hop', (h.more hn).2⟩

/-- After the last iteration `Y` holds `blockMix` of the group: each of its Blocks is the place of some iteration
(R174, R177). -/
theorem AfterIterations.output {m u : State} {n : Nat} (h : AfterIterations m n u) (hn : n = 2 * m.cfgR.toNat) :
    u.y.readWords 0 (32 * m.cfgR.toNat) = blockMix (groupWords m) m.cfgR.toNat := by
  have hlen : (blockMix (groupWords m) m.cfgR.toNat).length = 32 * m.cfgR.toNat := length_blockMixSteps _ le_rfl
  refine List.ext_getElem (by rw [readWords_length, hlen]) fun b hb hb' => ?_
  obtain ⟨k, hk, hpos⟩ : ∃ k, k < 2 * m.cfgR.toNat ∧ pos m.cfgR.toNat k = b / 16 := exists_pos_eq (by omega)
  obtain ⟨w, rfl⟩ : ∃ w : Fin 16, b = 16 * pos m.cfgR.toNat k + w := ⟨⟨b % 16, Nat.mod_lt b (by decide)⟩, by
    rw [hpos]
    exact (Nat.div_add_mod b 16).symm⟩
  calc (u.y.readWords 0 (32 * m.cfgR.toNat))[16 * pos m.cfgR.toNat k + w]
      = (u.y.readBlock (16 * pos m.cfgR.toNat k))[w] := by simp
    _ = (blockMixSteps (groupWords m) m.cfgR.toNat (k + 1)).1[w] := by rw [h.placed k (hn ▸ hk)]
    _ = (blockMix (groupWords m) m.cfgR.toNat).getD (16 * pos m.cfgR.toNat k + w) 0#32 :=
      (blockMixSteps_placed _ hk le_rfl w).symm
    _ = (blockMix (groupWords m) m.cfgR.toNat)[16 * pos m.cfgR.toNat k + w] := List.getD_eq_getElem _ _ hb'

/-! The positions of a run. -/

section
variable {m : State} (hst : m.st = .bmInit) (hi : m.inputs = []) (hop : m.op ≠ .mix) (h1 : 1 ≤ m.cfgR.toNat)
  (hr : m.cfgR.toNat ≤ m.cap.rMax) (hcap : m.cap.rMax ≤ 480)
include hst hi hop h1 hr hcap

theorem run_iterations {n : Nat} (hn : n ≤ 2 * m.cfgR.toNat) :
    ∃ u : State, Host.Core.run Sys2Proof.core (1 + 132 * n) m = .next u ∧ AfterIterations m n u := by
  induction n with
  | zero =>
    obtain ⟨u, hstep, hu⟩ := step_bmInit hi hr hst h1
    exact ⟨u, run_succ_of_step 0 hstep, hu⟩
  | succ n ih =>
    obtain ⟨u, hrun, hu⟩ := ih (by omega)
    obtain ⟨w, hpass, hw⟩ := hu.run_pass hn hi hop
    obtain ⟨v, hstore, hv⟩ := hw.step_bmStore hi hr hn hcap
    exact ⟨v, run_add (a := 1 + 132 * n) (b := 132) hrun ((run_succ_of_step 131 (hu.step_bmXor hi hr hn)).trans
      (run_add (a := 130) hpass (run_succ_of_step 0 hstore))), hv⟩

/-- A run is `2 + 264*r` steps (R176): it ends with the commit of what the iterations have stored. -/
theorem run_blockMixer : ∃ u : State, Host.Core.run Sys2Proof.core (1 + 264 * m.cfgR.toNat) m = .next u ∧
    AfterIterations m (2 * m.cfgR.toNat) u ∧
    Host.Core.run Sys2Proof.core (2 + 264 * m.cfgR.toNat) m = .next (afterCommit (commitGroup u)) := by
  obtain ⟨u, hrun, hu⟩ := run_iterations hst hi hop h1 hr hcap (n := 2 * m.cfgR.toNat) le_rfl
  have hsteps : 1 + 132 * (2 * m.cfgR.toNat) = 1 + 264 * m.cfgR.toNat := by omega
  rw [hsteps] at hrun
  have hfit : u.cfgR.toNat ≤ u.cap.rMax := by rwa [hu.frame.cfgR_eq, hu.frame.cap_eq]
  have hcommit := step_bmCommit (hu.frame.inputs_eq.trans hi) hfit (hu.finished rfl)
  have hend : 2 + 264 * m.cfgR.toNat = 1 + 264 * m.cfgR.toNat + 1 := by omega
  rw [hend]
  exact ⟨u, hrun, hu, run_add hrun (run_succ_of_step 0 hcommit)⟩

end

/-- The commit makes the group `blockMix` of it (R175, R176). -/
theorem AfterIterations.groupWords_commit {m u : State} (h : AfterIterations m (2 * m.cfgR.toNat) u) :
    (commitGroup u).g.readWords 0 (32 * m.cfgR.toNat) = blockMix (groupWords m) m.cfgR.toNat := by
  rw [← h.output rfl]
  refine readWords_congr _ _ 0 0 _ fun w hw => ?_
  rw [commitGroup_read, h.frame.cfgR_eq, if_pos (by omega)]

/-- The commit leaves the Words of `G` above the group (R175). -/
theorem AfterIterations.commit_above {m u : State} {n w : Nat} (h : AfterIterations m n u)
    (hw : 32 * m.cfgR.toNat ≤ w) : (commitGroup u).g.read w = m.g.read w := by
  rw [commitGroup_read, h.frame.cfgR_eq, if_neg (by omega), h.frame.g_eq]

/-- Settles O22, from the state at each position of the run. -/
theorem blockMixerRun : Obligations.BlockMixerRun := by
  intro s hst hi hop h1 hr hcap
  have hmix : s.op ≠ .mix := by
    obtain h | h := hop <;> rw [h] <;> decide
  obtain ⟨u, hrun, hu, hcommit⟩ := run_blockMixer hst hi hmix h1 hr hcap
  refine ⟨fun k hk => ?_, ⟨u, hrun, hu.finished rfl⟩, _, hcommit, ?_, fun w hw => ?_, fun h => ?_, ?_, ?_, ?_⟩
  · obtain ⟨v, hv, hat⟩ := run_iterations hst hi hmix h1 hr hcap hk.le
    obtain ⟨hvst, hvk⟩ := hat.more hk
    obtain ⟨w, hpass, hw⟩ := hat.run_pass hk hi hmix
    have hxor : Host.Core.run Sys2Proof.core (1 + 132 * k + 1) s = .next (afterXor v) :=
      run_add hv (run_succ_of_step 0 (hat.step_bmXor hi hr hk))
    refine ⟨⟨v, hv, hvst, hvk⟩, ⟨afterXor v, ?_, rfl, hvk⟩, ⟨w, ?_, hw.st_eq, hw.k_eq⟩⟩
    · rwa [show 2 + 132 * k = 1 + 132 * k + 1 by omega]
    · rw [show 132 + 132 * k = 1 + 132 * k + 1 + 130 by omega]
      exact run_add hxor hpass
  · rw [afterCommit_g]
    exact hu.groupWords_commit
  · rw [afterCommit_g]
    exact hu.commit_above hw
  · rw [afterCommit_of_blockmix (m := commitGroup u) (hu.frame.op_eq.trans h)]
  · rw [afterCommit_frame]
    exact hu.frame.v_eq
  · rw [afterCommit_frame]
    exact hu.frame.cfgN_eq
  · rw [afterCommit_frame]
    exact hu.frame.cfgR_eq

end Sys2Proof.Machine
end

section
/-! SUPPORT. The validity of `N` and the reduction by its mask (42_romix R195, R198). -/

namespace Sys2Proof.Machine

open Sys2Proof

/-- The two tests of `valid_N` (R198). -/
theorem validN_iff (n : Word) : validN n = true ↔ 2 ≤ n.toNat ∧ n &&& (n - 1#32) = 0#32 := by
  simp [validN, and32]

/-- The mask `N - 1` does not wrap for `N >= 1`. -/
theorem toNat_and_sub_one (w : Word) {n : Word} (hn : 1 ≤ n.toNat) :
    (w &&& (n - 1#32)).toNat = w.toNat &&& (n.toNat - 1) := by
  have hsub : (n - 1#32).toNat = n.toNat - 1 := BitVec.toNat_sub_of_le hn
  rw [BitVec.toNat_and, hsub]

/-- A Word of at least 2 that shares no bit with its predecessor is a power of 2, and the other way round (R198). -/
theorem validN_iff_two_pow (n : Word) : validN n = true ↔ ∃ e : Nat, 1 ≤ e ∧ e ≤ 31 ∧ n.toNat = 2 ^ e := by
  rw [validN_iff]
  constructor
  · rintro ⟨h2, hand⟩
    have hpow : n.toNat.isPowerOfTwo := by
      rw [← Nat.and_sub_one_eq_zero_iff_isPowerOfTwo (by omega), ← toNat_and_sub_one n (by omega), hand]
      rfl
    obtain ⟨e, he⟩ := hpow
    have hlow : 2 ^ 1 ≤ 2 ^ e := he ▸ h2
    have hhigh : 2 ^ e < 2 ^ 32 := he ▸ n.isLt
    exact ⟨e, (Nat.pow_le_pow_iff_right Nat.one_lt_two).mp hlow,
      Nat.le_of_lt_succ ((Nat.pow_lt_pow_iff_right Nat.one_lt_two).mp hhigh), he⟩
  · rintro ⟨e, h1, -, he⟩
    have h2 : 2 ≤ n.toNat := he ▸ Nat.pow_le_pow_right Nat.two_pos h1
    refine ⟨h2, BitVec.eq_of_toNat_eq ?_⟩
    rw [toNat_and_sub_one n (by omega)]
    exact (Nat.and_sub_one_eq_zero_iff_isPowerOfTwo (by omega)).mpr ⟨e, he⟩

/-- For a valid `N` the mask `N - 1` reduces modulo `N` (R195). -/
theorem toNat_and_sub_one_of_validN (w : Word) {n : Word} (hn : validN n = true) :
    (w &&& (n - 1#32)).toNat = w.toNat % n.toNat := by
  have h2 := two_le_of_validN hn
  obtain ⟨e, -, -, he⟩ := (validN_iff_two_pow n).mp hn
  rw [toNat_and_sub_one w (by omega), he, Nat.and_two_pow_sub_one_eq_mod]

/-- Settles O7: the tests of R198, and the powers of 2 that pass them. -/
theorem validCostFactors : Obligations.ValidCostFactors :=
  fun n => ⟨validN_iff n, validN_iff_two_pow n⟩

end Sys2Proof.Machine
end

section
/-! SUPPORT. The parameter check (42_romix R190, 60_exceptions R276): which test fails first, and where a command goes. -/

namespace Sys2Proof.Machine

open Sys2Proof

/-! The tests of a ROMIX in their order. -/

section
variable {n r : Word} {cap : Config.Capacity}

theorem paramError_romix_of_invalid (h : validN n = false ∨ r.toNat = 0) :
    paramError .romix n r cap = some .invalidParameter := by
  obtain h | h := h <;> simp [paramError, h]

theorem paramError_romix_of_large (hn : validN n = true) (hr : cap.rMax < r.toNat) :
    paramError .romix n r cap = some .resourceExhaustion := by
  have hpos : r.toNat ≠ 0 := by omega
  simp [paramError, hn, hpos, hr]

theorem paramError_romix_of_table (hn : validN n = true) (h1 : 1 ≤ r.toNat) (hr : r.toNat ≤ cap.rMax)
    (hv : cap.vWords < 32 * r.toNat * n.toNat) : paramError .romix n r cap = some .resourceExhaustion := by
  simp [paramError, hn, Nat.ne_zero_of_lt h1, hr.not_gt, hv]

theorem paramError_romix_of_fits (hn : validN n = true) (h1 : 1 ≤ r.toNat) (hr : r.toNat ≤ cap.rMax)
    (hv : 32 * r.toNat * n.toNat ≤ cap.vWords) : paramError .romix n r cap = none := by
  simp [paramError, hn, Nat.ne_zero_of_lt h1, hr.not_gt, hv.not_gt]

end

/-- `STATUS` after the error entry (10_state R34, 60_exceptions R274). -/
theorem statusWord_raiseError (m : State) :
    statusWord (raiseError .invalidParameter m) = 0x00000014#32 ∧
      statusWord (raiseError .resourceExhaustion m) = 0x00000024#32 :=
  ⟨(statusWord_congr (n := { State.reset with st := .error, ec := 1#4 }) rfl rfl).trans (by decide),
    (statusWord_congr (n := { State.reset with st := .error, ec := 2#4 }) rfl rfl).trans (by decide)⟩

/-- Settles O23, by the first test of the operation that fails. -/
theorem sqCheckOutcomes : Obligations.SqCheckOutcomes := by
  refine ⟨rfl, fun s _ => ?_⟩
  obtain ⟨t, ht⟩ : ∃ t, execSqCheck s = .next t := ⟨_, rfl⟩
  have hraise {e : ErrCode} (h : paramError s.op s.cfgN s.cfgR s.cap = some e) : t = raiseError e s :=
    eq_of_next ((execSqCheck_of_error h).symm.trans ht)
  have hinvalid (h : paramError s.op s.cfgN s.cfgR s.cap = some .invalidParameter) :
      t = { s with ec := 1#4, st := .error } ∧ statusWord t = 0x00000014#32 :=
    ⟨hraise h, hraise h ▸ (statusWord_raiseError s).1⟩
  have hresource (h : paramError s.op s.cfgN s.cfgR s.cap = some .resourceExhaustion) :
      t = { s with ec := 2#4, st := .error } ∧ statusWord t = 0x00000024#32 :=
    ⟨hraise h, hraise h ▸ (statusWord_raiseError s).2⟩
  have hpass (h : paramError s.op s.cfgN s.cfgR s.cap = none) : t = afterCheck s :=
    eq_of_next ((execSqCheck_of_none h).symm.trans ht)
  obtain ⟨hmix, hblockmix, hromix⟩ := afterCheck_of_op s
  refine ⟨t, ht, fun hop => ?mix, fun hop => ?blockmix, fun hop => ?romix⟩ <;>
    have hcheck := congrArg (paramError · s.cfgN s.cfgR s.cap) hop
  case mix => exact (hpass hcheck).trans (hmix hop)
  case blockmix =>
    refine ⟨fun h0 => ?_, fun hr => ?_, fun ⟨h1, hr⟩ => ?_⟩
    · exact hinvalid (hcheck.trans (if_pos h0))
    · exact hresource (hcheck.trans ((if_neg (Nat.ne_zero_of_lt hr)).trans (if_pos hr)))
    · exact (hpass (hcheck.trans ((if_neg (Nat.ne_zero_of_lt h1)).trans (if_neg hr.not_gt)))).trans (hblockmix hop)
  case romix =>
    simp only [← validN_iff, Bool.not_eq_true]
    refine ⟨fun h => ?_, fun hn => ⟨fun hr => ?_, fun ⟨h1, hr⟩ => ⟨fun hv => ?_, fun hv => ?_⟩⟩⟩
    · exact hinvalid (hcheck.trans (paramError_romix_of_invalid h))
    · exact hresource (hcheck.trans (paramError_romix_of_large hn hr))
    · exact hresource (hcheck.trans (paramError_romix_of_table hn h1 hr hv))
    · exact (hpass (hcheck.trans (paramError_romix_of_fits hn h1 hr hv))).trans (hromix hop)

end Sys2Proof.Machine
end

section
/-! SUPPORT. The micro-operations of the ROMix controller and of the MIX wrapper (42_romix R191, R192, R194 to R196). -/

namespace Sys2Proof.Machine

open Sys2Proof

/-- Words written read back as written. -/
theorem readWords_writeWords_same (m : Store) (a : Nat) {n : Nat} {ws : List Word} (h : ws.length = n) :
    (m.writeWords a ws).readWords a n = ws := by
  subst h
  refine List.ext_getElem (by simp) fun t _ ht => ?_
  rw [readWords_getElem, read_writeWords_inside _ _ _ _ ht]

/-- Words below or above those written read as before. -/
theorem readWords_writeWords_other (m : Store) {a b n : Nat} {ws : List Word} (h : b + n ≤ a ∨ a + ws.length ≤ b) :
    (m.writeWords a ws).readWords b n = m.readWords b n :=
  readWords_congr _ _ _ _ _ fun _ _ => read_writeWords_outside _ _ _ _ (by omega)

/-- Block 0 exists whatever the configuration (00_scope R9). -/
theorem blockZero_le_bufferWords {m : State} (h : 1 ≤ m.cap.rMax) : 16 ≤ bufferWords m := by
  unfold bufferWords
  omega

theorem lastBlock_lt {r : Nat} (hr : 1 ≤ r) : lastBlock r < 32 * r := by
  unfold lastBlock
  omega

/-- Settles O27: Block 0 lies inside the buffer, so the access is made. -/
theorem mxInLoadsBlockZero : Obligations.MxInLoadsBlockZero := by
  refine ⟨rfl, fun s h => ⟨_, execMxIn_eq (blockZero_le_bufferWords h), fun w => ?_, rfl, rfl⟩⟩
  simp

/-- Settles O28: Block 0 is written and `DONE` follows. -/
theorem mxOutReturnsBlockZero : Obligations.MxOutReturnsBlockZero := by
  refine ⟨rfl, fun s h => ⟨_, execMxOut_eq (blockZero_le_bufferWords h), fun w => ?_, fun a ha => ?_, rfl,
    statusWord_flags_of_done rfl, rfl⟩⟩
  · simpa using read_writeBlock_inside s.g 0 s.t w
  · exact read_writeBlock_outside s.g s.t (.inr (by omega))

/-- Settles O24: the group is written at the base of entry `i`, and nowhere else. -/
theorem rmFillStoresTheGroup : Obligations.RmFillStoresTheGroup := by
  refine ⟨rfl, fun s hr hv => ⟨_, execRmFill_eq (group_le_bufferWords hr) hv, fun w hw => ?_, fun a ha => ?_, rfl, rfl⟩⟩
  · have hlen : w < (s.g.readWords 0 (32 * s.cfgR.toNat)).length := by simpa using hw
    refine (read_writeWords_inside _ _ _ _ hlen).trans ?_
    rw [readWords_getElem, Nat.zero_add]
  · exact read_writeWords_outside _ _ _ _ (by simpa [entryBase] using ha)

/-- Settles O25: the masked Word, and its reduction for a valid `N`. -/
theorem rmIdxReducesTheWord : Obligations.RmIdxReducesTheWord := by
  refine ⟨rfl, fun s h1 hr => ?_⟩
  have hlast : lastBlock s.cfgR.toNat + 1 ≤ bufferWords s := (lastBlock_lt h1).trans_le (group_le_bufferWords hr)
  refine ⟨_, execRmIdx_eq (Nat.ne_zero_of_lt h1) hlast, rfl, fun hn => ⟨?_, ?_⟩, rfl, rfl⟩
  · exact toNat_and_sub_one_of_validN _ hn
  · exact Nat.le_sub_one_of_lt (and32_sub_one_lt _ (two_le_of_validN hn))

/-- Settles O26: the xor of the group and the entry, Word by Word, is written at the start of `G`. -/
theorem rmXorvFoldsTheEntry : Obligations.RmXorvFoldsTheEntry := by
  refine ⟨rfl, fun s hr hv => ⟨_, execRmXorv_eq (group_le_bufferWords hr) hv, fun w hw => ?_, fun w hw => ?_, rfl, rfl⟩⟩
  · rw [read_writeWords, if_pos (by simpa using hw), List.getD_eq_getElem _ _ (by simpa using hw)]
    simp [xor32, entryBase]
  · exact read_writeWords_outside _ _ _ _ (by simpa using hw)

end Sys2Proof.Machine
end

section
/-! SUPPORT. The ROMix run (42_romix R193, R197): the check, the fill pass, the mix pass. -/

namespace Sys2Proof.Machine

open Sys2Proof

/-! `romix` by its iterations (R193). -/

/-- The group before iteration `i` of the fill pass of a ROMix that begins in `m`. -/
def fillGroup (m : State) (i : Nat) : List Word := (romixFill (groupWords m) m.cfgR.toNat i).1

/-- The group before iteration `i` of the mix pass of a ROMix that begins in `m`. -/
def mixGroup (m : State) (i : Nat) : List Word :=
  romixMix (romixFill (groupWords m) m.cfgR.toNat m.cfgN.toNat).2 (fillGroup m m.cfgN.toNat) m.cfgN m.cfgR.toNat i

theorem length_romixFill (g : List Word) (r n : Nat) : (romixFill g r n).2.length = n := by
  induction n with
  | zero => rfl
  | succ n ih => simp [romixFill, ih]

/-- Entry `e` of the table is the group before iteration `e`. -/
theorem romixFill_entry (g : List Word) (r : Nat) {e n : Nat} (he : e < n) :
    (romixFill g r n).2.getD e [] = (romixFill g r e).1 := by
  induction n with
  | zero => omega
  | succ n ih =>
    rw [romixFill, List.getD_eq_getElem?_getD, List.getElem?_append, length_romixFill]
    obtain rfl | hlt := Nat.eq_or_lt_of_le (Nat.le_of_lt_succ he)
    · simp
    · rw [if_pos hlt, ← List.getD_eq_getElem?_getD, ih hlt]

theorem fillGroup_succ (m : State) (i : Nat) : fillGroup m (i + 1) = blockMix (fillGroup m i) m.cfgR.toNat := rfl

/-- R195: the index of a mix iteration is below `N`. -/
theorem romixIndex_lt (g : List Word) {n : Word} (r : Nat) (hn : validN n = true) : romixIndex g n r < n.toNat :=
  and32_sub_one_lt _ (two_le_of_validN hn)

/-- The index of a mix iteration names an entry of the table, so it is a group of the fill pass (R195, R196). -/
theorem mixGroup_succ {m : State} (hn : validN m.cfgN = true) (i : Nat) : mixGroup m (i + 1) =
    blockMix (List.zipWith xor32 (mixGroup m i) (fillGroup m (romixIndex (mixGroup m i) m.cfgN m.cfgR.toNat)))
      m.cfgR.toNat := by
  rw [fillGroup, ← romixFill_entry _ _ (romixIndex_lt _ _ hn)]
  rfl

/-! The states of a run. -/

/-- A ROMIX without a host step whose parameters pass `SQ.CHECK` (R190). -/
structure RomixReady (m : State) : Prop where
  op_eq : m.op = .romix
  inputs_eq : m.inputs = []
  rMax_le : m.cap.rMax ≤ 480
  valid : validN m.cfgN = true
  one_le : 1 ≤ m.cfgR.toNat
  fits : m.cfgR.toNat ≤ m.cap.rMax
  table_fits : 32 * m.cfgR.toNat * m.cfgN.toNat ≤ m.cap.vWords

/-- `u` differs from `m` at most in the registers that the micro-operations of a ROMix write. -/
def RomixFrame (m u : State) : Prop :=
  { u with x := m.x, t := m.t, g := m.g, y := m.y, v := m.v, st := m.st, ph := m.ph, i := m.i, k := m.k, d := m.d,
           s := m.s, j := m.j } = m

section
variable {m u : State} (h : RomixFrame m u)
include h

theorem RomixFrame.cfgN_eq : u.cfgN = m.cfgN := (congrArg State.cfgN h :)

theorem RomixFrame.cfgR_eq : u.cfgR = m.cfgR := (congrArg State.cfgR h :)

theorem RomixFrame.ready (hm : RomixReady m) : RomixReady u := by
  obtain ⟨hop, hi, hcap, hn, h1, hr, hv⟩ := h.symm ▸ hm
  exact ⟨hop, hi, hcap, hn, h1, hr, hv⟩

theorem RomixFrame.trans_iteration {w : State} (hw : IterationFrame u w) : RomixFrame m w := by
  unfold RomixFrame at h ⊢
  rw [← hw] at h
  exact h

end

/-- The unit in a ROMix that began in `m`, with `g` the group and the first `n` entries of the table filled. -/
structure RomixAt (m : State) (g : List Word) (n : Nat) (u : State) : Prop where
  frame : RomixFrame m u
  group : groupWords u = g
  above : ∀ w, 32 * m.cfgR.toNat ≤ w → u.g.read w = m.g.read w
  table : ∀ e < n, u.v.readWords (entryBase m.cfgR.toNat e) (32 * m.cfgR.toNat) = fillGroup m e

/-- The unit before iteration `i` of the fill pass of a ROMix that began in `m`. -/
structure BeforeFill (m : State) (i : Nat) (u : State) : Prop extends RomixAt m (fillGroup m i) i u where
  more : i < m.cfgN.toNat → u.st = .rmFill ∧ u.i.toNat = i ∧ u.ph = .fill
  finished : i = m.cfgN.toNat → u.st = .rmIdx ∧ u.i.toNat = 0 ∧ u.ph = .mix

/-- The unit before iteration `i` of the mix pass of a ROMix that began in `m`. -/
structure BeforeMix (m : State) (i : Nat) (u : State) : Prop extends RomixAt m (mixGroup m i) m.cfgN.toNat u where
  more : i < m.cfgN.toNat → u.st = .rmIdx ∧ u.i.toNat = i ∧ u.ph = .mix
  finished : i = m.cfgN.toNat → u.st = .done

/-- An entry ends where a later one begins, or before (20_memory R64). -/
theorem entryBase_add_le_entryBase {e n : Nat} (r : Nat) (he : e < n) : entryBase r e + 32 * r ≤ entryBase r n :=
  calc entryBase r e + 32 * r ≤ 32 * r * n := entryBase_add_le r he
    _ = entryBase r n := by rw [entryBase]; ring

/-! What follows a commit (R175). -/

/-- What follows a commit changes none of the registers that hold the group and the table. -/
theorem RomixAt.at_afterCommit {m u : State} {g : List Word} {n : Nat} (h : RomixAt m g n u) :
    RomixAt m g n (afterCommit u) := by
  rw [afterCommit_frame]
  exact ⟨h.frame, h.group, h.above, h.table⟩

/-- Before the last iteration of a pass the pass goes on. -/
theorem afterCommit_of_more {m : State} (hop : m.op = .romix) (hi : m.i.toNat + 1 < m.cfgN.toNat) :
    (afterCommit m).i.toNat = m.i.toNat + 1 ∧ (afterCommit m).ph = m.ph ∧
      (m.ph = .fill → (afterCommit m).st = .rmFill) ∧ (m.ph = .mix → (afterCommit m).st = .rmIdx) := by
  have hsucc : (m.i + 1#32).toNat = m.i.toNat + 1 := by bv_omega
  cases hph : m.ph <;> simp [afterCommit, hop, hi, hph, hsucc]

/-- After the last iteration of the fill pass comes the mix pass, and after that of the mix pass `DONE`. -/
theorem afterCommit_of_last {m : State} (hop : m.op = .romix) (hi : m.i.toNat + 1 = m.cfgN.toNat) :
    (m.ph = .fill → (afterCommit m).st = .rmIdx ∧ (afterCommit m).i.toNat = 0 ∧ (afterCommit m).ph = .mix) ∧
      (m.ph = .mix → (afterCommit m).st = .done) := by
  cases hph : m.ph <;> simp [afterCommit, hop, hi, hph]

/-! The micro-operations as steps. -/

section
variable {m u : State} {g : List Word} {n i : Nat} (hm : RomixReady m)
include hm

/-- The check passes and the fill pass begins (R190). -/
theorem RomixReady.step_check (hst : m.st = .check) : ∃ u, step m = .next u ∧ BeforeFill m 0 u := by
  obtain ⟨-, -, hromix⟩ := afterCheck_of_op m
  have hnone : paramError m.op m.cfgN m.cfgR m.cap = none :=
    hm.op_eq ▸ paramError_romix_of_fits hm.valid hm.one_le hm.fits hm.table_fits
  have hpos := two_le_of_validN hm.valid
  rw [step_of_inputs_nil hm.inputs_eq, sequencerInstr, hst]
  refine ⟨_, (execSqCheck_of_none hnone).trans (congrArg _ (hromix hm.op_eq)), ⟨rfl, rfl, ?_, ?_⟩, ?_, ?_⟩
  · exact fun _ _ => rfl
  · exact fun e he => absurd he e.not_lt_zero
  · exact fun _ => ⟨rfl, rfl, rfl⟩
  · omega

/-- `RM.FILL` adds the group to the table (R194). -/
theorem RomixAt.step_rmFill (h : RomixAt m (fillGroup m n) n u) (hst : u.st = .rmFill) (hi : u.i.toNat = n)
    (hn : n < m.cfgN.toNat) :
    ∃ w, step u = .next w ∧ w.st = .bmInit ∧ w.i = u.i ∧ w.ph = u.ph ∧ RomixAt m (fillGroup m n) (n + 1) w := by
  have hu := h.frame.ready hm
  have hr := h.frame.cfgR_eq
  have hbase : entryBase u.cfgR.toNat u.i.toNat + 32 * u.cfgR.toNat ≤ u.cap.vWords := by
    refine (entryBase_add_le _ ?_).trans hu.table_fits
    rwa [hi, h.frame.cfgN_eq]
  rw [step_of_inputs_nil hu.inputs_eq, sequencerInstr, hst]
  refine ⟨_, execRmFill_eq (group_le_bufferWords hu.fits) hbase, rfl, rfl, rfl, h.frame, h.group, h.above,
    fun e he => ?_⟩
  rw [hi, hr]
  obtain rfl | hlt := Nat.eq_or_lt_of_le (Nat.le_of_lt_succ he)
  · rw [readWords_writeWords_same _ _ (readWords_length ..), ← hr]
    exact h.group
  · rw [readWords_writeWords_other _ (.inl (entryBase_add_le_entryBase _ hlt)), h.table e hlt]

/-- `RM.IDX` computes the index of the mix iteration (R195). -/
theorem RomixAt.step_rmIdx (h : RomixAt m g n u) (hst : u.st = .rmIdx) :
    ∃ w, step u = .next w ∧ w.st = .rmXorv ∧ w.i = u.i ∧ w.ph = u.ph ∧
      w.j.toNat = romixIndex g m.cfgN m.cfgR.toNat ∧ RomixAt m g n w := by
  have hu := h.frame.ready hm
  have hlast := lastBlock_lt hu.one_le
  rw [step_of_inputs_nil hu.inputs_eq, sequencerInstr, hst]
  refine ⟨_, execRmIdx_eq (Nat.ne_zero_of_lt hu.one_le) (hlast.trans_le (group_le_bufferWords hu.fits)), rfl, rfl, rfl,
    ?_, h.frame, h.group, h.above, h.table⟩
  rw [romixIndex, ← h.group, ← h.frame.cfgN_eq, ← h.frame.cfgR_eq, groupWords, readWords_getD _ _ _ _ hlast,
    Nat.zero_add]

/-- `RM.XORV` folds the entry of the index into the group (R196). -/
theorem RomixAt.step_rmXorv (h : RomixAt m g m.cfgN.toNat u) (hst : u.st = .rmXorv) (hj : u.j.toNat < m.cfgN.toNat) :
    ∃ w, step u = .next w ∧ w.st = .bmInit ∧ w.i = u.i ∧ w.ph = u.ph ∧
      RomixAt m (List.zipWith xor32 g (fillGroup m u.j.toNat)) m.cfgN.toNat w := by
  have hu := h.frame.ready hm
  have hbase : entryBase u.cfgR.toNat u.j.toNat + 32 * u.cfgR.toNat ≤ u.cap.vWords := by
    refine (entryBase_add_le _ ?_).trans hu.table_fits
    rwa [h.frame.cfgN_eq]
  rw [step_of_inputs_nil hu.inputs_eq, sequencerInstr, hst]
  refine ⟨_, execRmXorv_eq (group_le_bufferWords hu.fits) hbase, rfl, rfl, rfl, h.frame, ?_, fun w hw => ?_, h.table⟩
  · rw [← h.group, ← h.table _ hj, ← h.frame.cfgR_eq]
    exact readWords_writeWords_same _ _ (by simp)
  · rw [← h.above w hw]
    refine read_writeWords_outside _ _ _ _ (.inr ?_)
    simpa [h.frame.cfgR_eq] using hw

/-- A BlockMixer run makes the group `blockMix` of it and ends with a commit (R176). -/
theorem RomixAt.run_blockMixer (h : RomixAt m g n u) (hst : u.st = .bmInit) :
    ∃ w : State, Host.Core.run Sys2Proof.core (2 + 264 * m.cfgR.toNat) u = .next (afterCommit w) ∧ w.i = u.i ∧ w.ph = u.ph ∧
      RomixAt m (blockMix g m.cfgR.toNat) n w := by
  have hu := h.frame.ready hm
  have hop : u.op ≠ .mix := by simp [hu.op_eq]
  obtain ⟨w, -, hw, hrun⟩ := Machine.run_blockMixer hst hu.inputs_eq hop hu.one_le hu.fits hu.rMax_le
  rw [h.frame.cfgR_eq] at hrun
  have hi : w.i = u.i := (congrArg State.i hw.frame :)
  have hph : w.ph = u.ph := (congrArg State.ph hw.frame :)
  have hframe : RomixFrame m w := h.frame.trans_iteration hw.frame
  refine ⟨commitGroup w, hrun, hi, hph, hframe, ?_, fun a ha => ?_, fun e he => ?_⟩
  · rw [groupWords, commitGroup_cfgR, hw.frame.cfgR_eq, hw.groupWords_commit, h.group, h.frame.cfgR_eq]
  · rw [hw.commit_above (by rwa [h.frame.cfgR_eq]), h.above a ha]
  · rw [commitGroup_v, hw.frame.v_eq, h.table e he]

/-- The commit of iteration `i` of the fill pass leads to the next, or to the mix pass (R175). -/
theorem RomixAt.beforeFill_afterCommit (h : RomixAt m (fillGroup m (i + 1)) (i + 1) u) (hi : u.i.toNat = i)
    (hph : u.ph = .fill) : BeforeFill m (i + 1) (afterCommit u) := by
  have hop := (h.frame.ready hm).op_eq
  refine ⟨h.at_afterCommit, fun hmore => ?_, fun hlast => ?_⟩
  · obtain ⟨hnext, hpass, hfill, -⟩ := afterCommit_of_more hop (by rwa [hi, h.frame.cfgN_eq])
    exact ⟨hfill hph, hnext.trans (congrArg (· + 1) hi), hpass.trans hph⟩
  · exact (afterCommit_of_last hop (by rw [hi, h.frame.cfgN_eq, hlast])).1 hph

/-- The commit of iteration `i` of the mix pass leads to the next, or to `DONE` (R175). -/
theorem RomixAt.beforeMix_afterCommit (h : RomixAt m (mixGroup m (i + 1)) m.cfgN.toNat u) (hi : u.i.toNat = i)
    (hph : u.ph = .mix) : BeforeMix m (i + 1) (afterCommit u) := by
  have hop := (h.frame.ready hm).op_eq
  refine ⟨h.at_afterCommit, fun hmore => ?_, fun hlast => ?_⟩
  · obtain ⟨hnext, hpass, -, hmix⟩ := afterCommit_of_more hop (by rwa [hi, h.frame.cfgN_eq])
    exact ⟨hmix hph, hnext.trans (congrArg (· + 1) hi), hpass.trans hph⟩
  · exact (afterCommit_of_last hop (by rw [hi, h.frame.cfgN_eq, hlast])).2 hph

/-- An iteration of the mix pass begins with `RM.IDX` and `RM.XORV` (R195, R196). -/
theorem BeforeMix.steps (h : BeforeMix m i u) (hi : i < m.cfgN.toNat) :
    ∃ v w, step u = .next v ∧ v.st = .rmXorv ∧ step v = .next w ∧ w.st = .bmInit ∧ w.i.toNat = i ∧ w.ph = .mix ∧
      RomixAt m (List.zipWith xor32 (mixGroup m i) (fillGroup m (romixIndex (mixGroup m i) m.cfgN m.cfgR.toNat)))
        m.cfgN.toNat w := by
  obtain ⟨hst, hui, huph⟩ := h.more hi
  obtain ⟨v, hidx, hvst, hvi, hvph, hvj, hv⟩ := h.step_rmIdx hm hst
  obtain ⟨w, hxorv, hwst, hwi, hwph, hw⟩ := hv.step_rmXorv hm hvst (hvj ▸ romixIndex_lt _ _ hm.valid)
  refine ⟨v, w, hidx, hvst, hxorv, hwst, ?_, ?_, hvj ▸ hw⟩
  · rw [hwi, hvi, hui]
  · rw [hwph, hvph, huph]

end

/-! The positions of a run. -/

section
variable {m : State} {n : Nat} (hm : RomixReady m) (hst : m.st = .check)
include hm hst

/-- An iteration of the fill pass is `3 + 264*r` steps (R197). -/
theorem RomixReady.run_fill (hn : n ≤ m.cfgN.toNat) :
    ∃ u : State, Host.Core.run Sys2Proof.core (1 + n * (3 + 264 * m.cfgR.toNat)) m = .next u ∧ BeforeFill m n u := by
  induction n with
  | zero =>
    obtain ⟨u, hcheck, hu⟩ := hm.step_check hst
    rw [Nat.zero_mul]
    exact ⟨u, run_succ_of_step 0 hcheck, hu⟩
  | succ n ih =>
    obtain ⟨u, hrun, hu⟩ := ih (Nat.le_of_succ_le hn)
    obtain ⟨hust, hui, huph⟩ := hu.more hn
    obtain ⟨v, hfill, hvst, hvi, hvph, hv⟩ := hu.step_rmFill hm hust hui hn
    obtain ⟨w, hblock, hwi, hwph, hw⟩ := hv.run_blockMixer hm hvst
    rw [← fillGroup_succ] at hw
    have hsteps : 1 + (n + 1) * (3 + 264 * m.cfgR.toNat) =
        1 + n * (3 + 264 * m.cfgR.toNat) + (1 + (2 + 264 * m.cfgR.toNat)) := by ring
    rw [hsteps]
    refine ⟨_, run_add hrun (run_add (run_succ_of_step 0 hfill) hblock), hw.beforeFill_afterCommit hm ?_ ?_⟩
    · rw [hwi, hvi, hui]
    · rw [hwph, hvph, huph]

/-- An iteration of the mix pass is `4 + 264*r` steps (R197). -/
theorem RomixReady.run_mix (hn : n ≤ m.cfgN.toNat) :
    ∃ u : State, Host.Core.run Sys2Proof.core (1 + m.cfgN.toNat * (3 + 264 * m.cfgR.toNat) + n * (4 + 264 * m.cfgR.toNat)) m =
      .next u ∧ BeforeMix m n u := by
  induction n with
  | zero =>
    obtain ⟨u, hrun, hu⟩ := hm.run_fill hst le_rfl
    have hpos := two_le_of_validN hm.valid
    rw [Nat.zero_mul]
    exact ⟨u, hrun, hu.toRomixAt, fun _ => hu.finished rfl, by omega⟩
  | succ n ih =>
    obtain ⟨u, hrun, hu⟩ := ih (Nat.le_of_succ_le hn)
    obtain ⟨v, w, hidx, -, hxorv, hwst, hwi, hwph, hw⟩ := hu.steps hm hn
    obtain ⟨z, hblock, hzi, hzph, hz⟩ := hw.run_blockMixer hm hwst
    rw [← mixGroup_succ hm.valid] at hz
    have hsteps : (n + 1) * (4 + 264 * m.cfgR.toNat) =
        n * (4 + 264 * m.cfgR.toNat) + (1 + (1 + (2 + 264 * m.cfgR.toNat))) := by ring
    rw [hsteps, ← Nat.add_assoc]
    refine ⟨_, run_add hrun (run_add (run_succ_of_step 0 hidx) (run_add (run_succ_of_step 0 hxorv) hblock)),
      hz.beforeMix_afterCommit hm ?_ ?_⟩
    · rw [hzi, hwi]
    · rw [hzph, hwph]

/-- A run is `1 + N*(7 + 528*r)` steps (R197). -/
theorem RomixReady.run_romix :
    ∃ u : State, Host.Core.run Sys2Proof.core (1 + m.cfgN.toNat * (7 + 528 * m.cfgR.toNat)) m = .next u ∧
      BeforeMix m m.cfgN.toNat u := by
  have hsteps : 1 + m.cfgN.toNat * (7 + 528 * m.cfgR.toNat) =
      1 + m.cfgN.toNat * (3 + 264 * m.cfgR.toNat) + m.cfgN.toNat * (4 + 264 * m.cfgR.toNat) := by ring
  rw [hsteps]
  exact hm.run_mix hst le_rfl

end

/-- Settles O31, from the state at each position of the run. -/
theorem romixRun : Obligations.RomixRun := by
  intro s hst hop hi hcap hn h1 hr hv
  have hm : RomixReady s := ⟨hop, hi, hcap, hn, h1, hr, hv⟩
  refine ⟨fun i hlt => ?_, ?_⟩
  · obtain ⟨u, hrun, hu⟩ := hm.run_fill hst hlt.le
    obtain ⟨hust, hui, huph⟩ := hu.more hlt
    obtain ⟨v, hfill, hvst, -⟩ := hu.step_rmFill hm hust hui hlt
    obtain ⟨p, hmixrun, hp⟩ := hm.run_mix hst hlt.le
    obtain ⟨q, w, hidx, hqst, hxorv, hwst, -⟩ := hp.steps hm hlt
    have hidxAt (a b : Nat) : 2 + a + b = 1 + a + b + 1 := by omega
    have hxorvAt (a b : Nat) : 3 + a + b = 1 + a + b + 1 + 1 := by omega
    have hqrun := run_add hmixrun (run_succ_of_step 0 hidx)
    refine ⟨⟨u, hrun, hust, hui, huph⟩, ⟨v, ?_, hvst⟩, ⟨p, hmixrun, hp.more hlt⟩, ⟨q, ?_, hqst⟩, ⟨w, ?_, hwst⟩⟩
    · rw [show 2 + i * (3 + 264 * s.cfgR.toNat) = 1 + i * (3 + 264 * s.cfgR.toNat) + 1 by omega]
      exact run_add hrun (run_succ_of_step 0 hfill)
    · rw [hidxAt]
      exact hqrun
    · rw [hxorvAt]
      exact run_add hqrun (run_succ_of_step 0 hxorv)
  · obtain ⟨t, hrun, ht⟩ := hm.run_romix hst
    refine ⟨t, hrun, ht.finished rfl, ?_, ht.above⟩
    calc t.g.readWords 0 (32 * s.cfgR.toNat) = groupWords t := by rw [groupWords, ht.frame.cfgR_eq]
      _ = mixGroup s s.cfgN.toNat := ht.group
      _ = romix (groupWords s) s.cfgN s.cfgR.toNat := rfl

end Sys2Proof.Machine
end

section
/-! SUPPORT. Host reads and writes by their offset (43_host R220, R221, R223), and the step in which a record comes
first (R222). -/

namespace Sys2Proof.Machine

open Sys2Proof

/-- A record that comes first is taken from the list and what it decodes to is executed (R222, log entry 1). -/
theorem step_of_record {m : State} {w : BitVec 49} {rest : List Input} {i : Instr} (h : m.inputs = .txn w :: rest)
    (hi : decode (.ht49 w) = .ok i) : step m = exec i { m with inputs := rest } := by
  simp only [step, fetch, h, hi]

/-- A record that is no row of the table is refused (R121, R107). -/
theorem step_of_rejectedRecord {m : State} {w : BitVec 49} {rest : List Input} {r : Reject}
    (h : m.inputs = .txn w :: rest) (hr : decode (.ht49 w) = .error r) :
    step m = .next (respond .err { m with inputs := rest }) := by
  simp only [step, fetch, h, hr]

/-- R103, R121 (log entry 11). -/
theorem decode_readWithData {w : BitVec 49} (hk : recordKind w = false) (hd : recordData w ≠ 0#32) :
    decode (.ht49 w) = .error .readWithData := by
  rw [← packRecord_fields w, hk, decode_readRecord, if_neg hd]

/-- Settles O47, by whether the record decodes. -/
theorem stepRunsTheTransaction : Obligations.StepRunsTheTransaction :=
  fun _ _ _ hs => ⟨fun _ => step_of_record hs, fun hk hd => step_of_rejectedRecord hs (decode_readWithData hk hd)⟩

/-- A transaction that is refused while busy is accepted at rest (20_memory R75). -/
theorem unlessBusy_of_resting {m : State} (accepted : State) (hb : busy m = false) :
    unlessBusy m accepted = accepted := by
  rw [unlessBusy, hb, if_neg Bool.false_ne_true]

/-- The window of `G` (20_memory R70). -/
theorem hostReg_of_window {cap : Config.Capacity} {a : BitVec 16} (h4 : a.toNat % 4 = 0)
    (h : 0x1000 ≤ a.toNat ∧ a.toNat < 0x1000 + 128 * cap.rMax) : hostReg cap a = .g ((a.toNat - 0x1000) / 4) := by
  simp only [hostReg]
  rw [if_neg (by omega), if_neg (by omega), if_neg (by omega), if_neg (by omega), if_neg (by omega), if_pos h]

/-- Settles O37, down the tests of R220 in their order. -/
theorem hrdAnswers : Obligations.HrdAnswers := by
  refine ⟨fun a => decode_readRecord a 0#32, fun a s => ⟨_, congrArg Host.Outcome.next ?_, rfl⟩⟩
  have hnone := (hostReg_noRegister_iff s.cap a).mpr
  split_ifs with hmisaligned hcmd hstatus hbusy hn hr hwindow
  · exact hostRead_of_noRegister (hnone (.inl hmisaligned))
  · obtain rfl : a = 0x0000#16 := BitVec.eq_of_toNat_eq hcmd
    rfl
  · obtain rfl : a = 0x0004#16 := BitVec.eq_of_toNat_eq hstatus
    rfl
  · refine hostRead_of_busy hbusy (fun h => hcmd ?_) (fun h => hstatus (offset_of_status h))
    rw [(hostReg_offset h).1 rfl]
    rfl
  · obtain rfl : a = 0x0008#16 := BitVec.eq_of_toNat_eq hn
    exact unlessBusy_of_resting _ (Bool.eq_false_of_not_eq_true hbusy)
  · obtain rfl : a = 0x000C#16 := BitVec.eq_of_toNat_eq hr
    exact unlessBusy_of_resting _ (Bool.eq_false_of_not_eq_true hbusy)
  · rw [hostRead, hostReg_of_window (not_not.mp hmisaligned) hwindow]
    exact unlessBusy_of_resting _ (Bool.eq_false_of_not_eq_true hbusy)
  · exact hostRead_of_noRegister (hnone (.inr (by omega)))

/-- A write record that is none of the four commands is a plain write (R104, R106). -/
theorem decode_plainWrite {a : BitVec 16} {v : Word} (h : isCommandWrite a v = false) :
    decode (.ht49 (packRecord true a v)) = .ok (.hwr a v) := by
  rw [decode_writeRecord]
  by_cases ha : a = 0x0000#16
  · have hv : v ≠ 1#32 ∧ v ≠ 2#32 ∧ v ≠ 3#32 ∧ v ≠ 4#32 := by simpa [isCommandWrite, ha, and_assoc] using h
    simp [hv]
  · simp [ha]

/-- R223: a plain write to `CMD` does what the command of its data does; any other data are refused. -/
theorem exec_hwr_cmd (v : Word) (m : State) : exec (.hwr 0x0000#16 v) m =
    (if v.toNat = 4 then exec .abort m
     else if v.toNat = 1 then exec .mix m
     else if v.toNat = 2 then exec .blockmix m
     else if v.toNat = 3 then exec .romix m
     else .next { m with resp := some .err }) := by
  have hexec : exec (.hwr 0x0000#16 v) m = .next (command v m) := rfl
  rw [hexec]
  obtain ⟨rfl, h⟩ | ⟨rfl, h⟩ | ⟨rfl, h⟩ | ⟨rfl, h⟩ | ⟨h1, h2, h3, h4, h⟩ := command_cases v m
  · exact congrArg _ h
  · exact congrArg _ h
  · exact congrArg _ h
  · exact congrArg _ h
  · rw [if_neg (by bv_omega), if_neg (by bv_omega), if_neg (by bv_omega), if_neg (by bv_omega)]
    exact congrArg _ h

/-- Settles O38: a write to `CMD` by its data, any other by its offset. -/
theorem hwrWrites : Obligations.HwrWrites := by
  refine ⟨fun a v => decode_plainWrite, exec_hwr_cmd, fun a v s h0 => ?_⟩
  have hnone := (hostReg_noRegister_iff s.cap a).mpr
  refine ⟨hostWrite a v s, rfl, fun h => ?refused, fun h4 _ hb => ⟨fun hn => ?cfgN, fun hr => ?cfgR, fun hg => ?g,
    fun hout => hostWrite_of_noRegister v (hnone (.inr (by omega)))⟩⟩
  case refused =>
    obtain hmisaligned | hstatus | hbusy := h
    · exact hostWrite_of_noRegister v (hnone (.inl hmisaligned))
    · obtain rfl : a = 0x0004#16 := BitVec.eq_of_toNat_eq hstatus
      rfl
    · exact hostWrite_of_busy hbusy fun ⟨ha, _⟩ => h0 (ha ▸ rfl)
  case cfgN =>
    obtain rfl : a = 0x0008#16 := BitVec.eq_of_toNat_eq hn
    exact unlessBusy_of_resting _ hb
  case cfgR =>
    obtain rfl : a = 0x000C#16 := BitVec.eq_of_toNat_eq hr
    exact unlessBusy_of_resting _ hb
  case g =>
    have hwrite : hostWrite a v s = respond .ok { s with g := s.g.write ((a.toNat - 0x1000) / 4) v } := by
      rw [hostWrite, hostReg_of_window h4 hg]
      exact unlessBusy_of_resting _ hb
    rw [hwrite]
    exact ⟨rfl, read_write_same .., fun w hw => read_write_other _ _ hw, rfl⟩

end Sys2Proof.Machine
end

section
/-! SUPPORT. The writes of the commands (43_host R228 to R231, 60_exceptions R277). -/

namespace Sys2Proof.Machine

open Sys2Proof

theorem busy_eq_false_iff (m : State) : busy m = false ↔ m.st = .idle ∨ m.st = .done ∨ m.st = .error := by
  rw [← Bool.not_eq_true, busy_iff, not_not]

/-- The unit after an accepted start command (R228 to R230). -/
def started (op : Op) (m : State) : State := { m with op := op, ec := 0#4, st := .check, resp := some .ok }

@[simp] theorem started_g (op : Op) (m : State) : (started op m).g = m.g := rfl

theorem exec_start_of_busy {m : State} (hb : busy m = true) :
    exec .mix m = .next { m with resp := some .err } ∧ exec .blockmix m = .next { m with resp := some .err } ∧
      exec .romix m = .next { m with resp := some .err } := by
  have h (op : Op) : (.next (startCommand op m) : Result) = .next (respond .err m) := congrArg _ (if_pos hb)
  exact ⟨h .mix, h .blockmix, h .romix⟩

theorem exec_start_of_resting {m : State} (hb : busy m = false) :
    exec .mix m = .next (started .mix m) ∧ exec .blockmix m = .next (started .blockmix m) ∧
      exec .romix m = .next (started .romix m) := by
  have hno : ¬ busy m = true := Bool.not_eq_true _ ▸ hb
  have h (op : Op) : (.next (startCommand op m) : Result) = .next (started op m) := congrArg _ (if_neg hno)
  exact ⟨h .mix, h .blockmix, h .romix⟩

/-- Settles O39: the three resting states are those in which the unit is not busy. -/
theorem startCommands : Obligations.StartCommands := by
  intro s
  rw [← busy_eq_false_iff, Bool.not_eq_false]
  exact ⟨exec_start_of_resting, exec_start_of_busy⟩

/-- Settles O40: a busy unit forgets its data, a resting one keeps them. -/
theorem abortReturnsToIdle : Obligations.AbortReturnsToIdle := by
  refine ⟨rfl, fun s => ⟨⟨abortCommand s, rfl, ?_⟩, ?_⟩⟩
  · exact (statusWord_congr (n := State.reset) rfl rfl).trans (by decide)
  · have hexec : exec .abort s = .next (abortCommand s) := rfl
    obtain ⟨hb, h⟩ | ⟨hb, h⟩ := abortCommand_cases s <;> rw [hexec, h, hb]
    · exact ⟨nofun, fun _ => ⟨_, rfl, rfl, rfl, rfl, rfl, rfl, rfl, rfl, rfl⟩⟩
    · exact ⟨fun _ => rfl, nofun⟩

end Sys2Proof.Machine
end

section
/-! SUPPORT. The commands from `SQ.CHECK` to `DONE` or `ERROR` (43_host R228 to R230). -/

namespace Sys2Proof.Machine

open Sys2Proof

theorem statusWord_of_done {m : State} (h : m.st = .done) (hec : m.ec = 0#4) : statusWord m = 0x00000002#32 :=
  (statusWord_congr (n := { State.reset with st := .done }) h hec).trans (by decide)

theorem IterationFrame.ec_eq {m u : State} (h : IterationFrame m u) : u.ec = m.ec := (congrArg State.ec h :)

theorem RomixFrame.ec_eq {m u : State} (h : RomixFrame m u) : u.ec = m.ec := (congrArg State.ec h :)

/-! The tests of a BLOCKMIX in their order (42_romix R190). -/

section
variable {n r : Word} {cap : Config.Capacity}

theorem paramError_blockmix_of_zero (h : r.toNat = 0) : paramError .blockmix n r cap = some .invalidParameter :=
  if_pos h

theorem paramError_blockmix_of_large (hr : cap.rMax < r.toNat) :
    paramError .blockmix n r cap = some .resourceExhaustion :=
  (if_neg (Nat.ne_zero_of_lt hr)).trans (if_pos hr)

theorem paramError_blockmix_of_fits (h1 : 1 ≤ r.toNat) (hr : r.toNat ≤ cap.rMax) :
    paramError .blockmix n r cap = none :=
  (if_neg (Nat.ne_zero_of_lt h1)).trans (if_neg hr.not_gt)

theorem paramError_romix_of_resource (hn : validN n = true) (h1 : 1 ≤ r.toNat)
    (h : cap.rMax < r.toNat ∨ cap.vWords < 32 * r.toNat * n.toNat) :
    paramError .romix n r cap = some .resourceExhaustion := by
  by_cases hr : cap.rMax < r.toNat
  · exact paramError_romix_of_large hn hr
  · exact paramError_romix_of_table hn h1 (not_lt.mp hr) (h.resolve_left hr)

end

/-- What a MIX needs of the pass: `T` is mixed and `MX.OUT` follows (R143, R144). -/
theorem run_pass_of_mix {m : State} (hi : m.inputs = []) (hst : m.st = .scLoad) (hop : m.op = .mix) :
    ∃ x d s, Host.Core.run Sys2Proof.core 130 m =
      .next { m with x := x, t := mix m.t, d := d, s := s, st := .mxOut } := by
  have hrun := run_pass hi hst
  rw [afterPass_eq, if_pos hop] at hrun
  exact ⟨_, _, _, hrun⟩

theorem step_mxIn {m : State} (hi : m.inputs = []) (hst : m.st = .mxIn) (hcap : 1 ≤ m.cap.rMax) :
    step m = .next { m with t := m.g.readBlock 0, st := .scLoad } := by
  rw [step_of_inputs_nil hi, sequencerInstr, hst]
  exact execMxIn_eq (blockZero_le_bufferWords hcap)

theorem step_mxOut {m : State} (hi : m.inputs = []) (hst : m.st = .mxOut) (hcap : 1 ≤ m.cap.rMax) :
    step m = .next { m with g := m.g.writeWords 0 m.t.toList, st := .done } := by
  rw [step_of_inputs_nil hi, sequencerInstr, hst]
  exact execMxOut_eq (blockZero_le_bufferWords hcap)

/-! A unit in `CHECK` without a host step. -/

section
variable {m : State} (hi : m.inputs = []) (hst : m.st = .check)
include hi hst

theorem step_of_check : step m = execSqCheck m := by
  rw [step_of_inputs_nil hi, sequencerInstr, hst]
  rfl

/-- A check that fails ends the command in `ERROR` after one step (R190, 60_exceptions R274). -/
theorem run_check_of_error {e : ErrCode} (h : paramError m.op m.cfgN m.cfgR m.cap = some e) :
    Host.Core.run Sys2Proof.core 1 m = .next (raiseError e m) :=
  run_succ_of_step 0 ((step_of_check hi hst).trans (execSqCheck_of_error h))

theorem step_check_of_none (h : paramError m.op m.cfgN m.cfgR m.cap = none) : step m = .next (afterCheck m) :=
  (step_of_check hi hst).trans (execSqCheck_of_none h)

/-- A MIX is 133 steps (R192): `SQ.CHECK`, `MX.IN`, a StreamCore pass, `MX.OUT`. -/
theorem run_mix (hop : m.op = .mix) (hcap : 1 ≤ m.cap.rMax) :
    ∃ x t d s, Host.Core.run Sys2Proof.core 133 m = .next
      { m with x := x, t := t, d := d, s := s, g := m.g.writeWords 0 (mix (m.g.readBlock 0)).toList, st := .done } := by
  have hcheck : step m = .next { m with st := .mxIn } :=
    (step_check_of_none hi hst (by rw [hop]; rfl)).trans (congrArg _ ((afterCheck_of_op m).1 hop))
  have hin := step_mxIn (m := { m with st := .mxIn }) hi rfl hcap
  obtain ⟨x, d, s, hpass⟩ := run_pass_of_mix (m := { m with t := m.g.readBlock 0, st := .scLoad }) hi rfl hop
  have hout := step_mxOut
    (m := { m with x := x, t := mix (m.g.readBlock 0), d := d, s := s, st := .mxOut }) hi rfl hcap
  exact ⟨x, _, d, s, (run_succ_of_step 132 hcheck).trans ((run_succ_of_step 131 hin).trans
    (run_add (a := 130) hpass (run_succ_of_step 0 hout)))⟩

/-- A BLOCKMIX that passes its check is `3 + 264*r` steps (R229): `SQ.CHECK` and a BlockMixer run, which ends in
`DONE`. -/
theorem run_blockmix (hop : m.op = .blockmix) (h1 : 1 ≤ m.cfgR.toNat) (hr : m.cfgR.toNat ≤ m.cap.rMax)
    (hcap : m.cap.rMax ≤ 480) :
    ∃ u, Host.Core.run Sys2Proof.core (3 + 264 * m.cfgR.toNat) m = .next { commitGroup u with st := .done } ∧
      AfterIterations { m with st := .bmInit } (2 * m.cfgR.toNat) u := by
  have hcheck : step m = .next { m with st := .bmInit } :=
    (step_check_of_none hi hst (hop ▸ paramError_blockmix_of_fits h1 hr)).trans
      (congrArg _ ((afterCheck_of_op m).2.1 hop))
  have hmix : m.op ≠ .mix := by simp [hop]
  obtain ⟨u, -, hu, hrun⟩ := run_blockMixer (m := { m with st := .bmInit }) rfl hi hmix h1 hr hcap
  rw [afterCommit_of_blockmix (m := commitGroup u) (hu.frame.op_eq.trans hop)] at hrun
  have hsteps : 3 + 264 * m.cfgR.toNat = 2 + 264 * m.cfgR.toNat + 1 := by omega
  rw [hsteps]
  exact ⟨u, (run_succ_of_step _ hcheck).trans hrun, hu⟩

end

/-- `STATUS` after an accepted start command: `BUSY` (10_state R34). -/
theorem statusWord_started (op : Op) (m : State) : statusWord (started op m) = 0x00000001#32 :=
  statusWord_of_busy rfl rfl

/-- Settles O29: the write, and the run from `CHECK`. -/
theorem mixCommandRun : Obligations.MixCommandRun := by
  refine ⟨rfl, fun s hb => (exec_start_of_busy hb).1, fun s hb hi hcap => ?_⟩
  obtain ⟨hmix, -, -⟩ := exec_start_of_resting hb
  obtain ⟨x, t, d, n, hrun⟩ := run_mix (m := started .mix s) hi rfl rfl hcap
  rw [started_g] at hrun
  refine ⟨_, _, hmix, rfl, statusWord_started .mix s, hrun, rfl, statusWord_of_done rfl rfl, fun w => ?_,
    fun a ha => ?_, rfl, rfl, rfl, rfl⟩
  · simpa using read_writeBlock_inside s.g 0 (mix (s.g.readBlock 0)) w
  · dsimp only
    exact read_writeBlock_outside s.g (mix (s.g.readBlock 0)) (.inr (by omega))

/-- Settles O30: the write, the two errors of the check, and the run. -/
theorem blockmixCommandRun : Obligations.BlockmixCommandRun := by
  refine ⟨rfl, fun s hb => (exec_start_of_busy hb).2.1, fun s hb hi hcap => ?_⟩
  obtain ⟨-, hblockmix, -⟩ := exec_start_of_resting hb
  have hi' : (started .blockmix s).inputs = [] := hi
  refine ⟨_, hblockmix, rfl, statusWord_started .blockmix s, fun h0 => ?_, fun hr => ?_, fun ⟨h1, hr⟩ => ?_⟩
  · exact run_check_of_error hi' rfl (paramError_blockmix_of_zero h0)
  · exact run_check_of_error hi' rfl (paramError_blockmix_of_large hr)
  · obtain ⟨u, hrun, hu⟩ := run_blockmix hi' rfl rfl h1 hr hcap
    exact ⟨_, hrun, rfl, statusWord_of_done rfl hu.frame.ec_eq, hu.groupWords_commit, fun _ => hu.commit_above,
      hu.frame.v_eq, hu.frame.cfgN_eq, hu.frame.cfgR_eq⟩

/-- Settles O32: the write, the two errors of the check, and the run. -/
theorem romixCommandRun : Obligations.RomixCommandRun := by
  refine ⟨rfl, fun s hb => (exec_start_of_busy hb).2.2, fun s hb hi hcap => ?_⟩
  obtain ⟨-, -, hromix⟩ := exec_start_of_resting hb
  have hi' : (started .romix s).inputs = [] := hi
  refine ⟨_, hromix, rfl, statusWord_started .romix s, fun h => ?_, fun hn h1 h => ?_, fun hn h1 hr hv => ?_⟩
  · exact run_check_of_error hi' rfl (paramError_romix_of_invalid h)
  · exact run_check_of_error hi' rfl (paramError_romix_of_resource hn h1 h)
  · have hready : RomixReady (started .romix s) := ⟨rfl, hi, hcap, hn, h1, hr, hv⟩
    obtain ⟨-, t, hrun, hdone, hgroup, habove⟩ := romixRun (started .romix s) rfl rfl hi hcap hn h1 hr hv
    obtain ⟨u, hrun', hu⟩ := hready.run_romix rfl
    obtain rfl : t = u := eq_of_next (hrun'.symm.trans hrun)
    exact ⟨t, hrun, hdone, statusWord_of_done hdone hu.frame.ec_eq, hgroup, habove, hu.frame.cfgN_eq,
      hu.frame.cfgR_eq⟩

end Sys2Proof.Machine
end

section
/-! SUPPORT. Error entries and the ways out of `ERROR` (60_exceptions R274 to R277): the operations of the host keep
`ERROR` or leave it, and `SQ.CHECK` alone enters it. -/

namespace Sys2Proof.Machine

open Sys2Proof

/-! No way on but the error entry leads to `ERROR`. -/

/-- Where a passed check goes on, the unit is in one of three states (R190). -/
theorem afterCheck_st_ne_error (m : State) : (afterCheck m).st ≠ .error := by
  unfold afterCheck
  cases m.op <;> exact nofun

/-- A commit is followed by the next iteration, the mix pass or `DONE` (R175). -/
theorem afterCommit_st_ne_error (m : State) : (afterCommit m).st ≠ .error := by
  obtain ⟨-, h⟩ | ⟨-, -, -, h⟩ | ⟨-, -, -, h⟩ | ⟨-, -, -, h⟩ | ⟨-, -, -, h⟩ := afterCommit_cases m <;> rw [h] <;>
    exact nofun

theorem st_of_arxStep_error {f : ArxOp} {m t : State} (h : arxStep f m = .next t) (ht : t.st = .error) :
    m.st = .error := by
  obtain ⟨-, he⟩ | ⟨-, -, he⟩ | ⟨-, -, he⟩ := arxStep_cases f m <;> obtain rfl := eq_of_next (he.symm.trans h)
  · exact ht
  · exact ht
  · exact absurd ht nofun

theorem st_of_startCommand_error {op : Op} {m : State} (ht : (startCommand op m).st = .error) : m.st = .error := by
  obtain ⟨-, h⟩ | ⟨-, h⟩ := startCommand_cases op m <;> rw [h] at ht
  · exact ht
  · exact absurd ht nofun

theorem st_of_command_error {v : Word} {m : State} (ht : (command v m).st = .error) : m.st = .error := by
  obtain ⟨-, h⟩ | ⟨-, h⟩ | ⟨-, h⟩ | ⟨-, h⟩ | ⟨-, -, -, -, h⟩ := command_cases v m <;> rw [h] at ht
  · exact absurd ht nofun
  · exact st_of_startCommand_error ht
  · exact st_of_startCommand_error ht
  · exact st_of_startCommand_error ht
  · exact ht

/-- A write to another offset than that of `CMD` is no command: the sequencer and the error code stay (R277). -/
theorem hostWrite_keeps_st_ec {a : BitVec 16} (v : Word) (m : State) (ha : a ≠ 0x0000#16) :
    (hostWrite a v m).st = m.st ∧ (hostWrite a v m).ec = m.ec := by
  obtain h | ⟨hr, -⟩ | ⟨-, -, h⟩ | ⟨-, -, h⟩ | ⟨w, -, -, h⟩ := hostWrite_cases a v m
  case inr.inl => exact absurd ((hostReg_offset hr).1 rfl) ha
  all_goals exact h ▸ ⟨rfl, rfl⟩

theorem st_of_hostWrite_error {a : BitVec 16} {v : Word} {m : State} (ht : (hostWrite a v m).st = .error) :
    m.st = .error := by
  by_cases ha : a = 0x0000#16
  · subst ha
    exact st_of_command_error ht
  · exact (hostWrite_keeps_st_ec v m ha).1 ▸ ht

/-- R277: an instruction other than `SQ.CHECK` ends in `ERROR` only where it began there. -/
theorem st_of_exec_error {i : Instr} {m t : State} (h : exec i m = .next t) (ht : t.st = .error)
    (hi : i ≠ .sqCheck) : m.st = .error := by
  cases i with
  | hrd a =>
    obtain ⟨r, hr⟩ := hostRead_cases a m
    obtain rfl := eq_of_next h
    rwa [hr] at ht
  | hwr a v => exact st_of_hostWrite_error (eq_of_next h ▸ ht)
  | mix => exact st_of_startCommand_error (op := .mix) (eq_of_next h ▸ ht)
  | blockmix => exact st_of_startCommand_error (op := .blockmix) (eq_of_next h ▸ ht)
  | romix => exact st_of_startCommand_error (op := .romix) (eq_of_next h ▸ ht)
  | abort => exact absurd (eq_of_next h ▸ ht : (abortCommand m).st = .error) nofun
  | idle | done | error => exact eq_of_next h ▸ ht
  | sqCheck => exact absurd rfl hi
  | mxIn =>
    obtain ⟨-, rfl⟩ := execMxIn_next h
    exact absurd ht nofun
  | mxOut =>
    obtain ⟨-, rfl⟩ := execMxOut_next h
    exact absurd ht nofun
  | bmInit =>
    obtain ⟨-, -, rfl⟩ := execBmInit_next h
    exact absurd ht nofun
  | bmXor =>
    obtain ⟨-, rfl⟩ := execBmXor_next h
    exact absurd ht nofun
  | scLoad => exact absurd (eq_of_next h ▸ ht) nofun
  | scFfwd =>
    obtain ⟨-, hf⟩ | ⟨-, hf⟩ := execScFfwd_cases m <;> obtain rfl := eq_of_next (hf.symm.trans h) <;>
      exact absurd ht nofun
  | bmStore =>
    obtain ⟨-, ⟨-, rfl⟩ | ⟨-, rfl⟩⟩ := execBmStore_next h <;> exact absurd ht nofun
  | bmCommit => exact absurd ((execBmCommit_next h).2 ▸ ht) (afterCommit_st_ne_error _)
  | rmFill =>
    obtain ⟨-, -, rfl⟩ := execRmFill_next h
    exact absurd ht nofun
  | rmIdx =>
    obtain ⟨-, -, rfl⟩ := execRmIdx_next h
    exact absurd ht nofun
  | rmXorv =>
    obtain ⟨-, -, rfl⟩ := execRmXorv_next h
    exact absurd ht nofun
  | _ => exact st_of_arxStep_error h ht

/-! The error entry (R274). -/

/-- A check that ends in `ERROR` has raised the error of the first test that fails. -/
theorem execSqCheck_error {m t : State} (h : execSqCheck m = .next t) (ht : t.st = .error) :
    ∃ e, paramError m.op m.cfgN m.cfgR m.cap = some e ∧ t = raiseError e m := by
  obtain ⟨e, he, hc⟩ | ⟨-, hc⟩ := execSqCheck_cases m <;> obtain rfl := eq_of_next (hc.symm.trans h)
  · exact ⟨e, he, rfl⟩
  · exact absurd ht (afterCheck_st_ne_error m)

/-- R228 to R230: an accepted start command is the write of `op`, `ec`, `st` and the answer. -/
theorem exec_start_next {i : Instr} {m u : State} (hi : i ∈ [Instr.mix, .blockmix, .romix]) (hb : busy m = false)
    (h : exec i m = .next u) : ∃ op, u = started op m := by
  obtain ⟨hmix, hblockmix, hromix⟩ := exec_start_of_resting hb
  simp only [List.mem_cons, List.not_mem_nil, or_false] at hi
  obtain rfl | rfl | rfl := hi
  · exact ⟨_, eq_of_next (hmix.symm.trans h)⟩
  · exact ⟨_, eq_of_next (hblockmix.symm.trans h)⟩
  · exact ⟨_, eq_of_next (hromix.symm.trans h)⟩

/-- Settles O34: the entry is `raiseError`, and the command before it is `started`; neither writes the data. -/
theorem errorEntry : Obligations.ErrorEntry := by
  refine ⟨fun s t h ht => ⟨?_, rfl⟩, fun i s u t hi hb hu h ht => ?_⟩
  · obtain ⟨e, he, rfl⟩ := execSqCheck_error h ht
    obtain ⟨hinvalid, hresource⟩ := statusWord_raiseError s
    obtain rfl | rfl := paramError_some he
    · exact .inl ⟨rfl, hinvalid⟩
    · exact .inr ⟨rfl, hresource⟩
  · obtain ⟨op, rfl⟩ := exec_start_next hi hb hu
    obtain ⟨e, -, rfl⟩ := execSqCheck_error h ht
    exact ⟨rfl, rfl, rfl, rfl, rfl, rfl, rfl⟩

/-! The ways out of `ERROR` (R277). -/

/-- R231: the effect of an `ABORT` of a unit at rest. -/
theorem exec_abort_of_resting {m : State} (hb : busy m = false) :
    exec .abort m = .next { m with op := .none, ec := 0#4, st := .idle, resp := some .ok } := by
  obtain ⟨-, habort⟩ := abortReturnsToIdle
  obtain ⟨-, hresting, -⟩ := habort m
  exact hresting hb

/-- R276: the tests read `op`, the configuration and the capacities, so a check repeated with the same ones raises the
same error. -/
theorem execSqCheck_repeats {e : ErrCode} {m : State} (h : paramError m.op m.cfgN m.cfgR m.cap = some e) :
    execSqCheck { raiseError e m with op := m.op, ec := 0#4, st := .check } =
      .next (raiseError e { raiseError e m with op := m.op, ec := 0#4, st := .check }) :=
  execSqCheck_of_error h

/-- Settles O35: `ERROR` is a resting state, so commands and writes are accepted; only the check enters it; and a repeated
check fails at the same test. -/
theorem leavingError : Obligations.LeavingError := by
  refine ⟨fun s hst => ?_, fun i s t h ht => ?_, fun s t u h ht hu => ?_⟩
  · have hb : busy s = false := (busy_eq_false_iff s).mpr (.inr (.inr hst))
    obtain ⟨hmix, hblockmix, hromix⟩ := exec_start_of_resting hb
    refine ⟨exec_abort_of_resting hb, hmix, hblockmix, hromix, rfl, fun v => ⟨?_, ?_⟩, fun a v ha => ⟨_, rfl, ?_⟩⟩
    · exact congrArg _ (unlessBusy_of_resting _ hb)
    · exact congrArg _ (unlessBusy_of_resting _ hb)
    · obtain ⟨hkeepSt, hkeepEc⟩ := hostWrite_keeps_st_ec v s ha
      exact ⟨hkeepSt.trans hst, hkeepEc⟩
  · exact or_iff_not_imp_right.mpr (st_of_exec_error h ht)
  · obtain ⟨e, he, rfl⟩ := execSqCheck_error h ht
    obtain rfl := eq_of_next ((execSqCheck_repeats he).symm.trans hu)
    exact ⟨rfl, rfl⟩

end Sys2Proof.Machine
end

section
/-! SUPPORT. The causes of a refusal (60_exceptions R278). -/

namespace Sys2Proof.Machine

open Sys2Proof

/-- Of the answers to a read (R220), those that are `ERR`. -/
theorem hostRead_refused_iff (a : BitVec 16) (m : State) : (hostRead a m).resp = some .err ↔ a.toNat % 4 ≠ 0 ∨
    ¬(a.toNat < 0x0010 ∨ (0x1000 ≤ a.toNat ∧ a.toNat < 0x1000 + 128 * m.cap.rMax)) ∨
    (busy m = true ∧ a.toNat ≠ 0x0000 ∧ a.toNat ≠ 0x0004) := by
  obtain ⟨-, hanswers⟩ := hrdAnswers
  obtain ⟨r, hread, hr⟩ := hanswers a m
  rw [eq_of_next hread.symm, Option.some.injEq, hr]
  split_ifs with hmisaligned hcmd hstatus hbusy hn hr hwindow
  · exact iff_of_true rfl (.inl hmisaligned)
  · exact iff_of_false nofun (by omega)
  · exact iff_of_false nofun (by omega)
  · exact iff_of_true rfl (.inr (.inr ⟨hbusy, hcmd, hstatus⟩))
  all_goals simp only [hbusy, Bool.false_eq_true, false_and, or_false]
  · exact iff_of_false nofun (by omega)
  · exact iff_of_false nofun (by omega)
  · exact iff_of_false nofun (by omega)
  · exact iff_of_true trivial (.inr (by omega))

theorem startCommand_refused_iff (op : Op) (m : State) :
    (startCommand op m).resp = some .err ↔ busy m = true := by
  obtain ⟨hb, h⟩ | ⟨hb, h⟩ := startCommand_cases op m <;> rw [h, hb]
  · exact iff_of_true rfl rfl
  · exact iff_of_false nofun nofun

/-- A reserved code is refused always, a start code while busy (R107, R223). -/
theorem command_refused_iff (v : Word) (m : State) : (command v m).resp = some .err ↔
    ¬(1 ≤ v.toNat ∧ v.toNat ≤ 4) ∨ (busy m = true ∧ 1 ≤ v.toNat ∧ v.toNat ≤ 3) := by
  obtain ⟨rfl, h⟩ | ⟨rfl, h⟩ | ⟨rfl, h⟩ | ⟨rfl, h⟩ | ⟨h1, h2, h3, h4, h⟩ := command_cases v m <;> rw [h]
  · exact iff_of_false nofun (by simp)
  · simp [startCommand_refused_iff]
  · simp [startCommand_refused_iff]
  · simp [startCommand_refused_iff]
  · exact iff_of_true rfl (.inl (by bv_omega))

/-- A write is refused as its command is, or for its offset, or because the unit is busy (R221). -/
theorem hostWrite_refused_iff (a : BitVec 16) (v : Word) (m : State) : (hostWrite a v m).resp = some .err ↔
    a.toNat % 4 ≠ 0 ∨ ¬(a.toNat < 0x0010 ∨ (0x1000 ≤ a.toNat ∧ a.toNat < 0x1000 + 128 * m.cap.rMax)) ∨
    a.toNat = 0x0004 ∨ (a.toNat = 0x0000 ∧ ¬(1 ≤ v.toNat ∧ v.toNat ≤ 4)) ∨
    (busy m = true ∧ ((a.toNat = 0x0000 ∧ 1 ≤ v.toNat ∧ v.toNat ≤ 3) ∨ 0x0008 ≤ a.toNat)) := by
  by_cases h0 : a.toNat = 0x0000
  · obtain rfl : a = 0x0000#16 := BitVec.eq_of_toNat_eq h0
    have hcommand : hostWrite 0x0000#16 v m = command v m := rfl
    simp [hcommand, command_refused_iff]
  obtain ⟨-, -, hwrites⟩ := hwrWrites
  obtain ⟨t, hwrite, hrefused, haccepted⟩ := hwrites a v m h0
  obtain rfl := eq_of_next hwrite
  by_cases h : a.toNat % 4 ≠ 0 ∨ a.toNat = 0x0004 ∨ busy m = true
  · refine iff_of_true (congrArg State.resp (hrefused h)) ?_
    obtain hmisaligned | hstatus | hbusy := h
    · exact .inl hmisaligned
    · exact .inr (.inr (.inl hstatus))
    · simp only [hbusy, true_and]
      omega
  · obtain ⟨haligned, hstatus, hbusy⟩ : a.toNat % 4 = 0 ∧ a.toNat ≠ 0x0004 ∧ busy m = false := by simpa using h
    obtain ⟨hcfgN, hcfgR, hg, hunmapped⟩ := haccepted haligned hstatus hbusy
    simp only [hbusy, Bool.false_eq_true, false_and, or_false]
    obtain hreg | hreg | hreg | hreg : a.toNat = 0x0008 ∨ a.toNat = 0x000C ∨
        (0x1000 ≤ a.toNat ∧ a.toNat < 0x1000 + 128 * m.cap.rMax) ∨
        ((0x0010 ≤ a.toNat ∧ a.toNat < 0x1000) ∨ 0x1000 + 128 * m.cap.rMax ≤ a.toNat) := by omega
    · exact iff_of_false (hcfgN hreg ▸ nofun) (by omega)
    · exact iff_of_false (hcfgR hreg ▸ nofun) (by omega)
    · obtain ⟨hok, -⟩ := hg hreg
      exact iff_of_false (hok ▸ nofun) (by omega)
    · exact iff_of_true (congrArg State.resp (hunmapped hreg)) (by omega)

theorem hostRead_eq_of_refused {a : BitVec 16} {m : State} (h : (hostRead a m).resp = some .err) :
    hostRead a m = respond .err m := by
  obtain ⟨r, hr⟩ := hostRead_cases a m
  rw [hr, respond_resp, Option.some.injEq] at h
  rw [hr, h]

theorem hostWrite_eq_of_refused {a : BitVec 16} {v : Word} {m : State} (h : (hostWrite a v m).resp = some .err) :
    hostWrite a v m = respond .err m :=
  (hostWrite_answer a v m).resolve_right fun hok => absurd (h.symm.trans hok) nofun

/-- Settles O42: the causes for a read and for a write, and that each is answered by `respond` alone. -/
theorem refusalsComplete : Obligations.RefusalsComplete := by
  refine fun a v s t => ⟨fun h => ?_, fun h => ?_, fun rest => step_of_otherWidth⟩ <;> obtain rfl := eq_of_next h
  · exact ⟨hostRead_refused_iff a s, hostRead_eq_of_refused⟩
  · exact ⟨hostWrite_refused_iff a v s, hostWrite_eq_of_refused⟩

end Sys2Proof.Machine
end

section
/-! SUPPORT. Progress (60_exceptions R289, 70_reset R321): under the invariant every access exists. -/

namespace Sys2Proof.Machine

open Sys2Proof

theorem paramError_of_grouped {m : State} (h : grouped m = true) : paramError m.op m.cfgN m.cfgR m.cap = none := by
  simp only [grouped, checked, Bool.and_eq_true, Option.isNone_iff_eq_none] at h
  obtain ⟨⟨⟨-, hcheck⟩, -⟩, -⟩ := h
  exact hcheck

/-- The group of a group operation is not empty and fits the buffers (42_romix R190). -/
theorem fits_of_grouped {m : State} (h : grouped m = true) : 1 ≤ m.cfgR.toNat ∧ m.cfgR.toNat ≤ m.cap.rMax := by
  have hcheck := paramError_of_grouped h
  obtain hop | hop := op_of_grouped h <;> rw [hop] at hcheck
  · exact paramError_blockmix hcheck
  · obtain ⟨-, h1, hr, -⟩ := paramError_romix hcheck
    exact ⟨h1, hr⟩

/-- R289: the sequencer's move reaches no Word that does not exist. -/
theorem exists_next_of_sequencerInstr {m : State} (hm : Inv m) : ∃ t, exec (sequencerInstr m) m = .next t := by
  obtain ⟨hfill, hxorv⟩ := tableAddressesInBounds m hm
  obtain ⟨hcap, -, -, hctl⟩ := hm
  simp only [capOk, Bool.and_eq_true, decide_eq_true_eq] at hcap
  obtain ⟨hblock, -⟩ := hcap
  unfold sequencerInstr
  simp only [controlOk] at hctl
  cases hst : m.st <;> simp only [hst, Bool.and_eq_true, kOk, decide_eq_true_eq] at hctl
  case mxIn => exact ⟨_, execMxIn_eq (blockZero_le_bufferWords hblock)⟩
  case mxOut => exact ⟨_, execMxOut_eq (blockZero_le_bufferWords hblock)⟩
  case bmInit =>
    obtain ⟨h1, hr⟩ := fits_of_grouped hctl
    exact ⟨_, execBmInit_eq (Nat.ne_zero_of_lt h1) (lastBlock_le_bufferWords h1 hr)⟩
  case bmXor =>
    obtain ⟨hgrouped, hk⟩ := hctl
    exact ⟨_, execBmXor_eq (block_le_bufferWords hk (fits_of_grouped hgrouped).2)⟩
  case bmStore =>
    obtain ⟨hgrouped, hk⟩ := hctl
    exact ⟨_, execBmStore_eq (block_le_bufferWords (pos_lt hk) (fits_of_grouped hgrouped).2)⟩
  case bmCommit => exact ⟨_, execBmCommit_eq (group_le_bufferWords (fits_of_grouped hctl).2)⟩
  case rmFill =>
    obtain ⟨⟨hgrouped, -⟩, -⟩ := hctl
    obtain ⟨-, hentry, htable⟩ := hfill hst
    exact ⟨_, execRmFill_eq (group_le_bufferWords (fits_of_grouped hgrouped).2) (hentry.trans htable)⟩
  case rmIdx =>
    obtain ⟨⟨hgrouped, -⟩, -⟩ := hctl
    obtain ⟨h1, hr⟩ := fits_of_grouped hgrouped
    exact ⟨_, execRmIdx_eq (Nat.ne_zero_of_lt h1) ((lastBlock_lt h1).trans_le (group_le_bufferWords hr))⟩
  case rmXorv =>
    obtain ⟨⟨⟨hgrouped, -⟩, -⟩, -⟩ := hctl
    obtain ⟨-, hentry, htable⟩ := hxorv hst
    exact ⟨_, execRmXorv_eq (group_le_bufferWords (fits_of_grouped hgrouped).2) (hentry.trans htable)⟩
  all_goals exact ⟨_, rfl⟩

theorem step_of_reset {m : State} {rest : List Input} (h : m.inputs = .reset :: rest) :
    step m = .next (resetUnit { m with inputs := rest }) := by
  simp only [step, fetch, h]

/-- Settles O54, by who moves next: the sequencer, the host or the reset input. -/
theorem invariantNeverStops : Obligations.InvariantNeverStops := by
  intro s hs
  cases hi : s.inputs with
  | nil => exact step_of_inputs_nil hi ▸ exists_next_of_sequencerInstr hs
  | cons e rest =>
    cases e with
    | wait =>
      have hrest : Inv { s with inputs := rest } := hs
      exact step_of_wait hi ▸ exists_next_of_sequencerInstr hrest
    | txn w =>
      obtain ⟨t, -, hstep, -⟩ := everyTransactionIsAnswered s w rest hi
      exact ⟨t, hstep⟩
    | otherWidth => exact ⟨_, step_of_otherWidth hi⟩
    | reset => exact ⟨_, step_of_reset hi⟩

end Sys2Proof.Machine
end

section
/-! SUPPORT. The configuration from step to step (70_reset R315): its two writers are the host's write and the reset
input. -/

namespace Sys2Proof.Machine

open Sys2Proof

/-- The rows of `CFG_N` and `CFG_R` in 10_state R20, with the value written: only `HWR` at the register's offset. -/
theorem Effect.config_cases {m t : State} {i : Instr} (h : Effect m i t) :
    (t.cfgN = m.cfgN ∧ t.cfgR = m.cfgR) ∨ (i = .hwr 0x0008#16 t.cfgN ∧ t.cfgR = m.cfgR) ∨
      (i = .hwr 0x000C#16 t.cfgR ∧ t.cfgN = m.cfgN) := by
  cases h
  case writeN v => exact .inr (.inl ⟨rfl, rfl⟩)
  case writeR v => exact .inr (.inr ⟨rfl, rfl⟩)
  all_goals exact .inl ⟨rfl, rfl⟩

/-- A state code is no record, so the sequencer executes no host write (R100, R111). -/
theorem sequencerInstr_ne_hwr (m : State) (a : BitVec 16) (v : Word) : sequencerInstr m ≠ .hwr a v := by
  intro h
  obtain ⟨hcode, -⟩ := encodeOfDecode (.st4 (stCode m.st)) (sequencerInstr m) rfl
  rw [h] at hcode
  exact nomatch hcode

/-- R104: a plain write is decoded from the record of its offset and data alone. -/
theorem eq_packRecord_of_decode_hwr {w : BitVec 49} {a : BitVec 16} {v : Word} (h : decode (.ht49 w) = .ok (.hwr a v)) :
    w = packRecord true a v :=
  (Code.ht49.inj (encode_of_decode_ht49 h).1).symm

/-- R315, by steps: the reset input, a step that keeps both registers, or the write record of one of them. -/
theorem step_config_cases {s t : State} (h : step s = .next t) :
    (∃ rest, s.inputs = .reset :: rest) ∨ (t.cfgN = s.cfgN ∧ t.cfgR = s.cfgR) ∨
    (∃ rest, s.inputs = .txn (packRecord true 0x0008#16 t.cfgN) :: rest ∧ t.cfgR = s.cfgR) ∨
    (∃ rest, s.inputs = .txn (packRecord true 0x000C#16 t.cfgR) :: rest ∧ t.cfgN = s.cfgN) := by
  obtain ⟨_, -, he⟩ | ⟨w, rest, i, hs, hi, he⟩ | ⟨_, _, -, -, rfl⟩ | ⟨rest, hs, -⟩ := step_next h
  · obtain hkeep | ⟨hi, -⟩ | ⟨hi, -⟩ := (exec_effect he).config_cases
    · exact .inr (.inl hkeep)
    · exact absurd hi (sequencerInstr_ne_hwr s _ _)
    · exact absurd hi (sequencerInstr_ne_hwr s _ _)
  · obtain hkeep | ⟨rfl, hR⟩ | ⟨rfl, hN⟩ := (exec_effect he).config_cases
    · exact .inr (.inl hkeep)
    · exact .inr (.inr (.inl ⟨rest, eq_packRecord_of_decode_hwr hi ▸ hs, hR⟩))
    · exact .inr (.inr (.inr ⟨rest, eq_packRecord_of_decode_hwr hi ▸ hs, hN⟩))
  · exact .inr (.inl ⟨rfl, rfl⟩)
  · exact .inl ⟨rest, hs⟩

/-- Settles O57, by the kinds of step: each names the cause of the change it makes. -/
theorem configurationSurvives : Obligations.ConfigurationSurvives := by
  intro s t h
  obtain hreset | ⟨hN, hR⟩ | ⟨rest, hs, hR⟩ | ⟨rest, hs, hN⟩ := step_config_cases h
  · exact ⟨fun _ => .inl hreset, fun _ => .inl hreset⟩
  · exact ⟨fun hne => absurd hN hne, fun hne => absurd hR hne⟩
  · exact ⟨fun _ => .inr ⟨rest, _, hs, rfl⟩, fun hne => absurd hR hne⟩
  · exact ⟨fun hne => absurd hN hne, fun _ => .inr ⟨rest, _, hs, rfl⟩⟩

end Sys2Proof.Machine
end

section
/-! SUPPORT. The result of a ROMIX as a function of the configuration and the input group (70_reset R322, 00_scope
R18). -/

namespace Sys2Proof.Machine

open Sys2Proof

/-- Equal groups hold equal Words. -/
theorem read_eq_of_readWords_eq {m m' : Store} {n w : Nat} (h : m.readWords 0 n = m'.readWords 0 n) (hw : w < n) :
    m.read w = m'.read w := by
  have hread (u : Store) : u.read w = (u.readWords 0 n).getD w 0#32 := by
    rw [readWords_getD u 0 n w hw, Nat.zero_add]
  rw [hread m, hread m', h]

/-- R230: the success of a ROMIX, from the write to `CMD` to `DONE`. -/
theorem run_romix_command {m : State} (hb : busy m = false) (hi : m.inputs = []) (hcap : m.cap.rMax ≤ 480)
    (hn : validN m.cfgN = true) (h1 : 1 ≤ m.cfgR.toNat) (hr : m.cfgR.toNat ≤ m.cap.rMax)
    (hv : 32 * m.cfgR.toNat * m.cfgN.toNat ≤ m.cap.vWords) :
    ∃ u t : State, exec .romix m = .next u ∧
      Host.Core.run Sys2Proof.core (1 + m.cfgN.toNat * (7 + 528 * m.cfgR.toNat)) u = .next t ∧ t.st = .done ∧
      t.g.readWords 0 (32 * m.cfgR.toNat) = romix (groupWords m) m.cfgN m.cfgR.toNat := by
  obtain ⟨-, -, hresting⟩ := romixCommandRun
  obtain ⟨u, hexec, -, -, -, -, hsuccess⟩ := hresting m hb hi hcap
  obtain ⟨t, hrun, hdone, -, hgroup, -⟩ := hsuccess hn h1 hr hv
  exact ⟨u, t, hexec, hrun, hdone, hgroup⟩

/-- Settles O56: both units end with `romix` of the same group, which is a function of the group, `N` and `r`. -/
theorem romixForgetsThePast : Obligations.RomixForgetsThePast := by
  intro p q hbp hbq hip hiq hcapEq hcap hNEq hREq hn h1 hr hv hg
  obtain ⟨p1, p2, hexecP, hrunP, hdoneP, hgroupP⟩ := run_romix_command hbp hip hcap hn h1 hr hv
  have hsame : groupWords p = groupWords q := by
    rw [groupWords, groupWords, ← hREq]
    exact readWords_congr p.g q.g 0 0 _ fun w hw => by simpa using hg w hw
  rw [hcapEq] at hcap hr hv
  rw [hNEq] at hn hv hgroupP hrunP ⊢
  rw [hREq] at h1 hr hv hgroupP hrunP ⊢
  obtain ⟨q1, q2, hexecQ, hrunQ, hdoneQ, hgroupQ⟩ := run_romix_command hbq hiq hcap hn h1 hr hv
  have hend : p2.g.readWords 0 (32 * q.cfgR.toNat) = q2.g.readWords 0 (32 * q.cfgR.toNat) := by
    rw [hgroupP, hgroupQ, hsame]
  exact ⟨p1, q1, p2, q2, hexecP, hexecQ, hrunP, hrunQ, hdoneP, hdoneQ, fun w => read_eq_of_readWords_eq hend⟩

end Sys2Proof.Machine
end

section
/-! SUPPORT. The decoder on the encoder's codes (30_encoding R102 to R116). -/

namespace Sys2Proof.Machine

open Sys2Proof

/-- Settles O1: the two rows with operands by the fields of their records; each other row is one fixed code, at which the
decoder is evaluated. -/
theorem decodeOfEncode : Obligations.DecodeOfEncode := by
  intro i hwf
  cases i with
  | hrd a => exact decode_readRecord a 0#32
  | hwr a v => exact decode_plainWrite ((Bool.not_eq_true' _).mp hwf)
  | _ => rfl

/-- Settles O3: eight of the codes are encodings, and the schedule has no word 0. -/
theorem codesWrittenInTheSpec : Obligations.CodesWrittenInTheSpec :=
  ⟨decodeOfEncode (.hrd 0x0004#16) rfl, decodeOfEncode (.hwr 0x1000#16 0xCAFEF00D#32) rfl, decodeOfEncode .romix rfl,
    decodeOfEncode (.hwr 0x0000#16 0x00000005#32) rfl, decodeOfEncode .sqCheck rfl, decodeOfEncode .bmCommit rfl,
    decodeOfEncode .scArx_4_0_12_7 rfl, decodeOfEncode .scArx_15_14_13_18 rfl, rfl⟩

end Sys2Proof.Machine
end
